-- ==== Sys2Proof/Word.lean ====
section
/-! DEFINITION. The word and byte types of the core (rules R2, R76 of spec/00_scope.md and spec/40_arith.md). -/

namespace Sys2Proof

/-- A word of the datapath: an unsigned 32-bit value (R76). -/
abbrev Word := BitVec 32

/-- A byte of a payload: an unsigned 8-bit value (R2). -/
abbrev Byte := BitVec 8

end Sys2Proof
end

