-- ==== Sys2Proof/Config.lean ====
section
/-! DEFINITION. The implementation parameters of spec/00_scope.md section 5. A host command has no free value (R5: a model
needs no oracle and no draw); the free values here are the cuts of an UNPAD executed by itself on a sequence that is not
whole blocks, for which the spec states none (notes/assumptions/13.md). `MAX_LEN` (decision D17, OPEN) is not a constant of
the model: payloads are lists of any finite length (notes/assumptions/10.md). -/

namespace Sys2Proof.Config

/-- Bits of a word (spec/00_scope.md section 5). -/
abbrev wordBits : Nat := 32
/-- Bytes of a block, and of the IV. -/
abbrev blockBytes : Nat := 8
/-- Feistel rounds of one block operation. -/
abbrev rounds : Nat := 16
/-- Entries of the P-array. -/
abbrev pEntries : Nat := 18
/-- S-boxes. -/
abbrev sTables : Nat := 4
/-- Entries of one S-box. -/
abbrev sEntries : Nat := 256
/-- Encryptions of one key schedule (9 for P, 512 for S). -/
abbrev scheduleEncryptions : Nat := 521
/-- Bits of MODE and PAD (R14, R15). -/
abbrev modeBits : Nat := 1
abbrev padBits : Nat := 3

/-- The bits of architectural state that the seven items of R12 add up to: KEYED, MODE, PAD, IV_VALID, IV, P, S. -/
def archStateBits : Nat :=
  1 + modeBits + padBits + 1 + 8 * blockBytes + pEntries * wordBits + sTables * sEntries * wordBits

/-- Free: the cut of PKCS5 and LAST_BYTE, one function (R115), on a sequence that is not whole blocks (DESIGN CHOICE:
notes/assumptions/13.md). No body, so nothing can be proved of its value. -/
opaque freeCutCount : List Byte → Nat
/-- Free: the cut of ONE_AND_ZEROS (R114) on a sequence that is not whole blocks. -/
opaque freeCutMarker : List Byte → Nat
/-- Free: the cut of NULL and SPACES, by their fill byte (R116, R117), on a sequence that is not whole blocks. -/
opaque freeCutFill : Byte → List Byte → Nat

end Sys2Proof.Config
end

