-- ==== Sys2Proof/Syntax.lean ====
section
/-! DEFINITION. What the core executes: one constructor per row of spec/opcode_table.json. The four host commands
carry the fields of their command byte and their whole payload (R50, R56); the 23 internal operations carry the
operands their rules give them (R70 to R129). No byte encodes an internal operation (R62); as a term it stands for one
evaluation of that operation on the datapath. -/

namespace Sys2Proof

/-- One request of the host: a command byte and an input payload of any finite length (R50). -/
structure Command where
  cmd : Byte
  din : List Byte
deriving DecidableEq, Repr

/-- The operations of the core. -/
inductive Instr where
  /-- INIT M, PD with payload key (R136). -/
  | init (m : BitVec 2) (pd : BitVec 3) (key : List Byte)
  /-- SETIV with payload iv (R137). -/
  | setiv (iv : List Byte)
  /-- ENCODE with payload x (R138). -/
  | encode (x : List Byte)
  /-- DECODE with payload z (R139). -/
  | decode (z : List Byte)
  /-- TOU32 (R70). -/
  | tou32 (x : Word)
  /-- ADD32 (R71). -/
  | add32 (a b : Word)
  /-- XOR32 (R72). -/
  | xor32 (a b : Word)
  /-- PACK32 (R73). -/
  | pack32 (b0 b1 b2 b3 : Byte)
  /-- UNPACK32 (R74). -/
  | unpack32 (w : Word)
  /-- KSCHED (R80). -/
  | ksched (key : List Byte)
  /-- F (R95). -/
  | f (x : Word)
  /-- ENCBLK (R96). -/
  | encblk (l r : Word)
  /-- DECBLK (R97). -/
  | decblk (l r : Word)
  /-- PAD.PKCS5 (R106). -/
  | padPkcs5 (x : List Byte)
  /-- PAD.ONE_AND_ZEROS (R107). -/
  | padOneAndZeros (x : List Byte)
  /-- PAD.LAST_BYTE (R108). -/
  | padLastByte (x : List Byte)
  /-- PAD.NULL (R109). -/
  | padNull (x : List Byte)
  /-- PAD.SPACES (R110). -/
  | padSpaces (x : List Byte)
  /-- UNPAD.PKCS5 (R113). -/
  | unpadPkcs5 (y : List Byte)
  /-- UNPAD.ONE_AND_ZEROS (R114). -/
  | unpadOneAndZeros (y : List Byte)
  /-- UNPAD.LAST_BYTE (R115). -/
  | unpadLastByte (y : List Byte)
  /-- UNPAD.NULL (R116). -/
  | unpadNull (y : List Byte)
  /-- UNPAD.SPACES (R117). -/
  | unpadSpaces (y : List Byte)
  /-- ECB.ENC (R126). -/
  | ecbEnc (x : List Byte)
  /-- ECB.DEC (R127). -/
  | ecbDec (x : List Byte)
  /-- CBC.ENC (R128). -/
  | cbcEnc (x : List Byte)
  /-- CBC.DEC (R129). -/
  | cbcDec (x : List Byte)
deriving DecidableEq, Repr

end Sys2Proof
end

