-- ==== Sys2Proof/Machine/State.lean ====
section
/-! DEFINITION. The state of the core (spec/10_state.md): the seven architectural items of R12, the four working words of
R10, and the interface to the host (the commands still to be issued, the response just given), with the closed types they
are made of and `State.reset` (R24, R175). -/

namespace Sys2Proof.Machine

/-- The MODE field: 0 = ECB, 1 = CBC (R14). -/
inductive Mode where
  | ecb
  | cbc
deriving DecidableEq, Repr

/-- The PAD field: 0 = PKCS5, 1 = ONE_AND_ZEROS, 2 = LAST_BYTE, 3 = NULL, 4 = SPACES; 5, 6, 7 are never stored (R15). -/
inductive Padding where
  | pkcs5
  | oneAndZeros
  | lastByte
  | null
  | spaces
deriving DecidableEq, Repr

/-- The eight status codes 0 to 7 (R60); 8 to 15 are never produced (U6 of spec/93_implementation_defined.md). -/
inductive Status where
  | ok
  | errCmd
  | errNokey
  | errKey
  | errMode
  | errPad
  | errIv
  | errLen
deriving DecidableEq, Repr

/-- The response to a command: a status and an output payload (R61). -/
structure Response where
  status : Status
  dout : List Byte
deriving DecidableEq, Repr

/-- The two halves of a block: left word and right word (R31). -/
structure Block where
  l : Word
  r : Word
deriving DecidableEq, Repr

/-- The P-array (R18) and the four S-boxes (R19). -/
structure Tables where
  p : Vector Word 18
  s : Vector (Vector Word 256) 4
deriving DecidableEq, Repr

/-- The state. The first seven fields are the architectural state (R12); `lr` and `prev` are the working words of R10,
which no operation reads before it has loaded them; `resWord` and `resBytes` are the model's own place for the result of
an internal operation executed by itself (notes/assumptions/4.md); `pending` and `response` are the host's side of the
interface (R39, R61), not state of the core. -/
structure State where
  /-- KEYED (R13). -/
  keyed : Bool
  /-- MODE (R14). -/
  mode : Mode
  /-- PAD (R15). -/
  pad : Padding
  /-- IV_VALID (R16). -/
  ivValid : Bool
  /-- IV[0] to IV[7] (R17). -/
  iv : Vector Byte 8
  /-- P[0] to P[17] (R18). -/
  p : Vector Word 18
  /-- S[0][0] to S[3][255] (R19). -/
  s : Vector (Vector Word 256) 4
  /-- The working words L and R (R10). -/
  lr : Block
  /-- The working words PREVL and PREVR (R10). -/
  prev : Block
  /-- The model's own: the word an internal operation left as its result. -/
  resWord : Word
  /-- The model's own: the byte sequence an internal operation left as its result. -/
  resBytes : List Byte
  /-- The commands the host has still to issue, the next one first, each after the response to the one before (R179). -/
  pending : List Command
  /-- The response to the command executed last (R61); the core does not read it. -/
  response : Option Response
deriving DecidableEq, Repr

/-- Faults. The spec gives the core none: the only exceptional event is the rejection of a command, which is a response
with a status code and leaves the core ready for the next command (R150, R157, R158). The type has no constructor, so that
no meaning can stop the machine with a fault (safe: there is nothing to prove from one). -/
inductive Fault where
deriving DecidableEq, Repr

/-- Refusals. -/
inductive Refusal where
  /-- Raised by an arm of `exec` whose operation has no meaning yet; no arm is left so. Safe: it stops. -/
  | notModelled (mnemonic : String)
  /-- Raised by KSCHED on an empty key: R80 takes n at least 1 and U12 says `refuse`. No command reaches it (R141).
  Safe: it stops. -/
  | emptyKey
  /-- Raised by a mode operation on a length that is not a multiple of 8: R36 and U12 say `refuse`.
  No command reaches it (R138, R139). Safe: it stops. -/
  | partialBlock
deriving DecidableEq, Repr

/-- The state after reset: KEYED = 0 and IV_VALID = 0 (R24, R175). The spec leaves MODE, PAD, the IV, P and S unspecified
and gives the working words no value; the model names zero for each (DESIGN CHOICE, unsafe: notes/assumptions/1.md and 2.md).
No command has been issued and none answered. -/
def State.reset : State where
  keyed := false
  mode := .ecb
  pad := .pkcs5
  ivValid := false
  iv := Vector.replicate 8 0
  p := Vector.replicate 18 0
  s := Vector.replicate 4 (Vector.replicate 256 0)
  lr := ⟨0, 0⟩
  prev := ⟨0, 0⟩
  resWord := 0
  resBytes := []
  pending := []
  response := none

end Sys2Proof.Machine
end

