-- ==== Sys2Proof/WellFormed.lean ====
section
/-! DEFINITION. Which operations have operands inside the domain their rules give them. A host command is well-formed
whatever it carries: a bad key, mode selector, padding selector, IV or length is rejected with a status, never ill-formed
(R58, R158). -/

namespace Sys2Proof

/-- A length that is a multiple of the block size (R36). -/
def wholeBlocks (x : List Byte) : Bool := x.length % 8 == 0

/-- The operands are in the operation's domain: KSCHED takes a key of at least one byte (R80), a mode operation takes a
whole number of blocks (R36, R125). An UNPAD runs on any sequence, its cut being free where R112 states none
(notes/assumptions/13.md). -/
def Instr.wf : Instr → Bool
  | .init _ _ _ => true
  | .setiv _ => true
  | .encode _ => true
  | .decode _ => true
  | .tou32 _ => true
  | .add32 _ _ => true
  | .xor32 _ _ => true
  | .pack32 _ _ _ _ => true
  | .unpack32 _ => true
  | .ksched key => !key.isEmpty
  | .f _ => true
  | .encblk _ _ => true
  | .decblk _ _ => true
  | .padPkcs5 _ => true
  | .padOneAndZeros _ => true
  | .padLastByte _ => true
  | .padNull _ => true
  | .padSpaces _ => true
  | .unpadPkcs5 _ => true
  | .unpadOneAndZeros _ => true
  | .unpadLastByte _ => true
  | .unpadNull _ => true
  | .unpadSpaces _ => true
  | .ecbEnc x => wholeBlocks x
  | .ecbDec x => wholeBlocks x
  | .cbcEnc x => wholeBlocks x
  | .cbcDec x => wholeBlocks x

/-- The four operations a host can command; the others are internal (R62). -/
def Instr.isCommand : Instr → Bool
  | .init _ _ _ => true
  | .setiv _ => true
  | .encode _ => true
  | .decode _ => true
  | .tou32 _ => false
  | .add32 _ _ => false
  | .xor32 _ _ => false
  | .pack32 _ _ _ _ => false
  | .unpack32 _ => false
  | .ksched _ => false
  | .f _ => false
  | .encblk _ _ => false
  | .decblk _ _ => false
  | .padPkcs5 _ => false
  | .padOneAndZeros _ => false
  | .padLastByte _ => false
  | .padNull _ => false
  | .padSpaces _ => false
  | .unpadPkcs5 _ => false
  | .unpadOneAndZeros _ => false
  | .unpadLastByte _ => false
  | .unpadNull _ => false
  | .unpadSpaces _ => false
  | .ecbEnc _ => false
  | .ecbDec _ => false
  | .cbcEnc _ => false
  | .cbcDec _ => false

end Sys2Proof
end

