-- ==== Sys2Proof/Machine/Ops.lean ====
section
/-! DEFINITION. The named operations over the state: reading and writing table entries (whole words, R37), the updates a
meaning may make, giving a response, and THE REJECTION of a command (R156), the core's only exceptional event (R150). There
is no return from a rejection: the core is at once ready for the next command (R157). -/

namespace Sys2Proof.Machine

/-- What one operation answers. -/
abbrev Result := Host.Outcome State Fault Refusal

/-- Read P[i] (R18, R37). -/
def Tables.readP (t : Tables) (i : Fin 18) : Word := t.p[i.val]

/-- Write P[i] (R18, R37). -/
def Tables.writeP (t : Tables) (i : Fin 18) (v : Word) : Tables := { t with p := t.p.set i.val v }

/-- Read S[b][e] (R19, R37). -/
def Tables.readS (t : Tables) (b : Fin 4) (e : Fin 256) : Word := (t.s[b.val])[e.val]

/-- Write S[b][e] (R19, R37). -/
def Tables.writeS (t : Tables) (b : Fin 4) (e : Fin 256) (v : Word) : Tables :=
  { t with s := t.s.set b.val ((t.s[b.val]).set e.val v) }

namespace State

/-- P and S together, as the engine reads them. -/
def tables (s : State) : Tables := ⟨s.p, s.s⟩

/-- Replace P and S (KSCHED alone does, R87). -/
def withTables (s : State) (t : Tables) : State := { s with p := t.p, s := t.s }

/-- Load the working words L and R (R10). -/
def withLR (s : State) (b : Block) : State := { s with lr := b }

/-- Load the working words PREVL and PREVR (R10). -/
def withPrev (s : State) (b : Block) : State := { s with prev := b }

/-- The word result of an internal operation executed by itself. -/
def withResWord (s : State) (w : Word) : State := { s with resWord := w }

/-- The byte-sequence result of an internal operation executed by itself. -/
def withResBytes (s : State) (x : List Byte) : State := { s with resBytes := x }

/-- Give a response (R61). -/
def withResponse (s : State) (r : Response) : State := { s with response := some r }

/-- The commands the host has still to issue. -/
def withPending (s : State) (cs : List Command) : State := { s with pending := cs }

/-- What INIT stores beside the tables: MODE, PAD, IV_VALID <- 0, KEYED <- 1 (R136). -/
def withConfig (s : State) (m : Mode) (p : Padding) : State :=
  { s with mode := m, pad := p, ivValid := false, keyed := true }

/-- What SETIV stores: the IV and IV_VALID <- 1 (R137). -/
def withIv (s : State) (iv : Vector Byte 8) : State := { s with iv := iv, ivValid := true }

end State

/-- End a command with status OK and an output payload (R61, R135). -/
def accept (dout : List Byte) (s : State) : State := s.withResponse ⟨.ok, dout⟩

/-- `raise Reject(e)`: the response is status e with an empty output, and nothing else changes (R156). -/
def reject (e : Status) (s : State) : State := s.withResponse ⟨e, []⟩

/-- The answer of a mode operation executed by itself: its operand is a whole number of blocks; on another length it has
no defined behaviour and the spec says to refuse it (R36, U12). -/
def onWholeBlocks (x : List Byte) (s : State) : Result :=
  if wholeBlocks x then .next s else .refused .partialBlock

end Sys2Proof.Machine
end

