-- ==== Sys2Proof/Machine/Arith.lean ====
section
/-! DEFINITION. The arithmetic primitives TOU32, ADD32, XOR32, PACK32, UNPACK32 (spec/40_arith.md, R70 to R76). -/

namespace Sys2Proof.Machine

/-- TOU32: the unsigned reading of a word, which a word already is (R70). -/
def tou32 (x : Word) : Word := x

/-- ADD32: addition modulo 2^32, the carry discarded (R71). -/
def add32 (a b : Word) : Word := a + b

/-- XOR32: bitwise exclusive-or; the coercion DOC00 names is TOU32 (R72). -/
def xor32 (a b : Word) : Word := tou32 (a ^^^ b)

/-- PACK32: the first argument into the most significant byte (R73). -/
def pack32 (b0 b1 b2 b3 : Byte) : Word := b0 ++ b1 ++ b2 ++ b3

/-- Byte k of a word, byte 0 the most significant: w[31-8k : 24-8k] (R34, R74). -/
def byteOf (w : Word) (k : Fin 4) : Byte := w.extractLsb' (24 - 8 * k.val) 8

/-- UNPACK32: the four bytes of a word, most significant first (R74). -/
def unpack32 (w : Word) : List Byte := [byteOf w 0, byteOf w 1, byteOf w 2, byteOf w 3]

/-- TOU32 executed by itself (R70). -/
def execTou32 (x : Word) (s : State) : Result := .next (s.withResWord (tou32 x))

/-- ADD32 executed by itself (R71). -/
def execAdd32 (a b : Word) (s : State) : Result := .next (s.withResWord (add32 a b))

/-- XOR32 executed by itself (R72). -/
def execXor32 (a b : Word) (s : State) : Result := .next (s.withResWord (xor32 a b))

/-- PACK32 executed by itself (R73). -/
def execPack32 (b0 b1 b2 b3 : Byte) (s : State) : Result := .next (s.withResWord (pack32 b0 b1 b2 b3))

/-- UNPACK32 executed by itself (R74). -/
def execUnpack32 (w : Word) (s : State) : Result := .next (s.withResBytes (unpack32 w))

end Sys2Proof.Machine
end

