-- ==== Sys2Proof/Machine/Operands.lean ====
section
/-! DEFINITION. How operands are formed: the selectors of the command byte (R54, R55), the packing of blocks and of the IV
(R31, R32), the blocks of a payload (R36, R125), the cyclic key stream (R33) and the table indices of F (R34, R44). -/

namespace Sys2Proof.Machine

/-- The mode an M field selects; 2 and 3 select none (R54). -/
def modeOf (m : BitVec 2) : Option Mode :=
  if m = 0 then some .ecb else if m = 1 then some .cbc else none

/-- The scheme a PD field selects; 5, 6 and 7 select none (R55). -/
def paddingOf (pd : BitVec 3) : Option Padding :=
  if pd = 0 then some .pkcs5
  else if pd = 1 then some .oneAndZeros
  else if pd = 2 then some .lastByte
  else if pd = 3 then some .null
  else if pd = 4 then some .spaces
  else none

/-- The number MODE holds for a mode (R14). -/
def Mode.code : Mode → BitVec 1
  | .ecb => 0
  | .cbc => 1

/-- The number PAD holds for a scheme (R15). -/
def Padding.code : Padding → BitVec 3
  | .pkcs5 => 0
  | .oneAndZeros => 1
  | .lastByte => 2
  | .null => 3
  | .spaces => 4

/-- The number of a status code (R60). -/
def Status.code : Status → BitVec 4
  | .ok => 0
  | .errCmd => 1
  | .errNokey => 2
  | .errKey => 3
  | .errMode => 4
  | .errPad => 5
  | .errIv => 6
  | .errLen => 7

/-- The index a byte is in an S-box (R34, R44). -/
def entryOf (b : Byte) : Fin 256 := ⟨b.toNat, b.isLt⟩

/-- Eight bytes as a block: bytes 0 to 3 the left word, 4 to 7 the right, each packed big-endian (R31). -/
def packBlock (b0 b1 b2 b3 b4 b5 b6 b7 : Byte) : Block := ⟨pack32 b0 b1 b2 b3, pack32 b4 b5 b6 b7⟩

/-- A block as eight bytes: UNPACK32(l) ++ UNPACK32(r) (R31). -/
def blockBytes (b : Block) : List Byte := unpack32 b.l ++ unpack32 b.r

/-- The blocks of a payload in rising order, block k being bytes 8k to 8k+7 (R125). Trailing bytes that fill no block give
none; the meanings never pass such a payload (R36). -/
def blocks : List Byte → List Block
  | b0 :: b1 :: b2 :: b3 :: b4 :: b5 :: b6 :: b7 :: rest => packBlock b0 b1 b2 b3 b4 b5 b6 b7 :: blocks rest
  | _ => []

/-- Blocks placed one after another as bytes (R125). -/
def bytesOfBlocks (bs : List Block) : List Byte := bs.flatMap blockBytes

/-- The IV as a block (R32). -/
def ivBlock (iv : Vector Byte 8) : Block :=
  packBlock iv[0] iv[1] iv[2] iv[3] iv[4] iv[5] iv[6] iv[7]

/-- The IV a payload of exactly eight bytes is: IV[k] = din[k] (R56, R137). -/
def ivOf (din : List Byte) : Option (Vector Byte 8) :=
  if h : din.length = 8 then some ⟨din.toArray, by simp [h]⟩ else none

/-- Byte number k of the cyclic key stream, key[k mod n] (R33, R82). -/
def keyByte (key : List Byte) (k : Nat) : Byte := key.getD (k % key.length) 0

/-- The key word of P slot i: stream bytes 4i to 4i+3, the first on top (R33, R82). -/
def keyWord (key : List Byte) (i : Nat) : Word :=
  pack32 (keyByte key (4 * i)) (keyByte key (4 * i + 1)) (keyByte key (4 * i + 2)) (keyByte key (4 * i + 3))

end Sys2Proof.Machine
end

