-- ==== Sys2Proof/Machine/Flags.lean ====
section
/-! DEFINITION. The flags and the checks that read them. The core has no condition codes (section 3 of spec/10_state.md):
its flags are KEYED and IV_VALID, read by the checks a command makes before any work (R135). Each check answers the first
cause that applies, in the order of R155. -/

namespace Sys2Proof.Machine

/-- The IV requirement of a CBC operation is not met: MODE = CBC and IV_VALID = 0 (R16, R138, R139). -/
def ivMissing (s : State) : Bool := s.mode == .cbc && !s.ivValid

/-- INIT's checks: the key, then the mode selector, then the padding selector (R136, R141, R155). -/
def checkInit (m : BitVec 2) (pd : BitVec 3) (key : List Byte) : Except Status (Mode × Padding) :=
  if key.isEmpty then .error .errKey
  else
    match modeOf m with
    | none => .error .errMode
    | some mode =>
      match paddingOf pd with
      | none => .error .errPad
      | some pad => .ok (mode, pad)

/-- SETIV's checks: keyed, then the length (R137, R155). -/
def checkSetiv (iv : List Byte) (s : State) : Except Status (Vector Byte 8) :=
  if !s.keyed then .error .errNokey
  else
    match ivOf iv with
    | none => .error .errIv
    | some v => .ok v

/-- ENCODE's checks: keyed, then the IV requirement (R138, R155). -/
def checkEncode (s : State) : Option Status :=
  if !s.keyed then some .errNokey
  else if ivMissing s then some .errIv
  else none

/-- DECODE's checks: keyed, then the length, then the IV requirement (R139, R155). -/
def checkDecode (z : List Byte) (s : State) : Option Status :=
  if !s.keyed then some .errNokey
  else if !wholeBlocks z then some .errLen
  else if ivMissing s then some .errIv
  else none

end Sys2Proof.Machine
end

