-- ==== Sys2Proof/Machine/Feistel.lean ====
section
/-! DEFINITION. The Feistel engine F, ENCBLK, DECBLK (spec/43_feistel.md, R95 to R99). -/

namespace Sys2Proof.Machine

/-- F: one entry of each S-box, combined by add, xor, add in that order (R95). -/
def roundF (t : Tables) (x : Word) : Word :=
  add32
    (xor32 (add32 (t.readS 0 (entryOf (byteOf x 0))) (t.readS 1 (entryOf (byteOf x 1))))
      (t.readS 2 (entryOf (byteOf x 2))))
    (t.readS 3 (entryOf (byteOf x 3)))

/-- Exchange the halves. -/
def Block.swap (b : Block) : Block := ⟨b.r, b.l⟩

/-- One round with subkey slot i: l takes the subkey, r takes F of the new l, then the halves are exchanged (R96, R97). -/
def feistelRound (t : Tables) (b : Block) (i : Fin 18) : Block :=
  let l := xor32 b.l (t.readP i)
  let r := xor32 b.r (roundF t l)
  Block.swap ⟨l, r⟩

/-- The rounds over the subkey slots listed, in order. -/
def feistelRounds (t : Tables) (b : Block) (slots : List (Fin 18)) : Block := slots.foldl (feistelRound t) b

/-- The subkey slots of ENCBLK's sixteen rounds: 0 to 15 (R96). -/
def encSlots : List (Fin 18) := [0, 1, 2, 3, 4, 5, 6, 7, 8, 9, 10, 11, 12, 13, 14, 15]

/-- The subkey slots of DECBLK's sixteen rounds: 17 down to 2 (R97). -/
def decSlots : List (Fin 18) := [17, 16, 15, 14, 13, 12, 11, 10, 9, 8, 7, 6, 5, 4, 3, 2]

/-- After the rounds: undo the last exchange, then one subkey into r and one into l (R96, R97). -/
def feistelFinish (t : Tables) (b : Block) (slotR slotL : Fin 18) : Block :=
  let u := b.swap
  ⟨xor32 u.l (t.readP slotL), xor32 u.r (t.readP slotR)⟩

/-- ENCBLK (R96). -/
@[irreducible] def encblk (t : Tables) (b : Block) : Block := feistelFinish t (feistelRounds t b encSlots) 16 17

/-- DECBLK (R97). -/
@[irreducible] def decblk (t : Tables) (b : Block) : Block := feistelFinish t (feistelRounds t b decSlots) 1 0

/-- F executed by itself, on the tables as they stand (R95). -/
def execF (x : Word) (s : State) : Result := .next (s.withResWord (roundF s.tables x))

/-- ENCBLK executed by itself; its result stands in L and R (R10, R96). -/
def execEncblk (l r : Word) (s : State) : Result := .next (s.withLR (encblk s.tables ⟨l, r⟩))

/-- DECBLK executed by itself; its result stands in L and R (R10, R97). -/
def execDecblk (l r : Word) (s : State) : Result := .next (s.withLR (decblk s.tables ⟨l, r⟩))

end Sys2Proof.Machine
end

