-- ==== Sys2Proof/Machine/KeySchedule.lean ====
section
/-! DEFINITION. The key schedule KSCHED (spec/41_keysched.md, R80 to R87). -/

namespace Sys2Proof.Machine

/-- Phase 0: the constants (R81). -/
def schedConstants : Tables := ⟨pInit, sInit⟩

/-- One slot of phase 1: the key word of slot i is xored into P[i] (R82). -/
def schedMixSlot (key : List Byte) (t : Tables) (i : Fin 18) : Tables :=
  t.writeP i (xor32 (t.readP i) (keyWord key i.val))

/-- Phase 1: every slot in rising order (R82). -/
def schedMixKey (key : List Byte) (t : Tables) : Tables := (List.finRange 18).foldl (schedMixSlot key) t

/-- The schedule at work: the tables as they stand, and the chained block L, R. -/
structure Sched where
  tables : Tables
  lr : Block
deriving DecidableEq, Repr

/-- One pass of phase 2: encrypt the chained block with the tables as they stand, then write the result to P[2j] and
P[2j+1] (R83; j = i/2). -/
def schedStepP (c : Sched) (j : Fin 9) : Sched :=
  let o := encblk c.tables c.lr
  ⟨(c.tables.writeP ⟨2 * j.val, by omega⟩ o.l).writeP ⟨2 * j.val + 1, by omega⟩ o.r, o⟩

/-- One pass of phase 3: the same into S[b][2m] and S[b][2m+1] (R84; m = j/2). -/
def schedStepS (b : Fin 4) (c : Sched) (m : Fin 128) : Sched :=
  let o := encblk c.tables c.lr
  ⟨(c.tables.writeS b ⟨2 * m.val, by omega⟩ o.l).writeS b ⟨2 * m.val + 1, by omega⟩ o.r, o⟩

/-- Phase 2: nine encryptions, all of P (R83). -/
def schedPhaseP (c : Sched) : Sched := (List.finRange 9).foldl schedStepP c

/-- Phase 3 for one S-box: 128 encryptions (R84). -/
def schedPhaseBox (c : Sched) (b : Fin 4) : Sched := (List.finRange 128).foldl (schedStepS b) c

/-- Phase 3: the four S-boxes, the block carried over from phase 2 and from box to box (R84, R86). -/
def schedPhaseS (c : Sched) : Sched := (List.finRange 4).foldl schedPhaseBox c

/-- KSCHED(key): the four phases in order, the chained block starting at (0, 0) (R80). A key has at least one byte; the
empty list, which no meaning passes (R141, U12), leaves the constants. -/
@[irreducible] def ksched (key : List Byte) : Sched :=
  match key with
  | [] => ⟨schedConstants, ⟨0, 0⟩⟩
  | _ :: _ => schedPhaseS (schedPhaseP ⟨schedMixKey key schedConstants, ⟨0, 0⟩⟩)

/-- KSCHED on the state: all of P and S are overwritten, and L, R hold the last encryption's output (R10, R80). -/
def runKsched (key : List Byte) (s : State) : State :=
  (s.withTables (ksched key).tables).withLR (ksched key).lr

/-- KSCHED executed by itself; it writes no flag (R80). An empty key is outside its domain (R80, U12). -/
def execKsched (key : List Byte) (s : State) : Result :=
  if key.isEmpty then .refused .emptyKey else .next (runKsched key s)

end Sys2Proof.Machine
end

