-- ==== Sys2Proof/Machine/Modes.lean ====
section
/-! DEFINITION. The mode controller ECB.ENC, ECB.DEC, CBC.ENC, CBC.DEC (spec/45_modes.md, R125 to R132). -/

namespace Sys2Proof.Machine

/-- XOR32 of the two halves of two blocks (R128, R129). -/
def xorBlock (a b : Block) : Block := ⟨xor32 a.l b.l, xor32 a.r b.r⟩

/-- ECB.ENC on blocks: each on its own (R126). -/
def ecbEncBlocks (t : Tables) (bs : List Block) : List Block := bs.map (encblk t)

/-- ECB.DEC on blocks: each on its own (R127). -/
def ecbDecBlocks (t : Tables) (bs : List Block) : List Block := bs.map (decblk t)

/-- CBC.ENC on blocks from chain value `prev`: the ciphertext block is the output and the new chain value (R128). -/
def cbcEncBlocks (t : Tables) (prev : Block) : List Block → List Block
  | [] => []
  | b :: rest =>
    let c := encblk t (xorBlock prev b)
    c :: cbcEncBlocks t c rest

/-- CBC.DEC on blocks from chain value `prev`: the ciphertext block just consumed is the new chain value (R129). -/
def cbcDecBlocks (t : Tables) (prev : Block) : List Block → List Block
  | [] => []
  | c :: rest => xorBlock (decblk t c) prev :: cbcDecBlocks t c rest

/-- What a mode operation leaves: its output, and the state, in which only working words may differ. -/
structure ModeRun where
  out : List Byte
  state : State
deriving DecidableEq, Repr

/-- ECB.ENC(x) (R126). L and R hold the last block operation's result (R10). -/
def ecbEnc (x : List Byte) (s : State) : ModeRun :=
  let out := ecbEncBlocks s.tables (blocks x)
  ⟨bytesOfBlocks out, s.withLR (out.getLastD s.lr)⟩

/-- ECB.DEC(x) (R127). -/
def ecbDec (x : List Byte) (s : State) : ModeRun :=
  let out := ecbDecBlocks s.tables (blocks x)
  ⟨bytesOfBlocks out, s.withLR (out.getLastD s.lr)⟩

/-- CBC.ENC(x): the chain starts from the IV; L, R and PREVL, PREVR end with the last ciphertext block (R10, R128). -/
def cbcEnc (x : List Byte) (s : State) : ModeRun :=
  let out := cbcEncBlocks s.tables (ivBlock s.iv) (blocks x)
  ⟨bytesOfBlocks out, (s.withLR (out.getLastD s.lr)).withPrev (out.getLastD (ivBlock s.iv))⟩

/-- CBC.DEC(x): the chain starts from the IV; L, R end with the last DECBLK's result and PREVL, PREVR with the last
ciphertext block (R10, R129). -/
def cbcDec (x : List Byte) (s : State) : ModeRun :=
  let bs := blocks x
  ⟨bytesOfBlocks (cbcDecBlocks s.tables (ivBlock s.iv) bs),
    (s.withLR ((ecbDecBlocks s.tables bs).getLastD s.lr)).withPrev (bs.getLastD (ivBlock s.iv))⟩

/-- The ENC operation that MODE selects (R62, R138). -/
def encBy : Mode → List Byte → State → ModeRun
  | .ecb, x, s => ecbEnc x s
  | .cbc, x, s => cbcEnc x s

/-- The DEC operation that MODE selects (R62, R139). -/
def decBy : Mode → List Byte → State → ModeRun
  | .ecb, x, s => ecbDec x s
  | .cbc, x, s => cbcDec x s

/-- ECB.ENC executed by itself (R126). -/
def execEcbEnc (x : List Byte) (s : State) : Result :=
  onWholeBlocks x ((ecbEnc x s).state.withResBytes (ecbEnc x s).out)

/-- ECB.DEC executed by itself (R127). -/
def execEcbDec (x : List Byte) (s : State) : Result :=
  onWholeBlocks x ((ecbDec x s).state.withResBytes (ecbDec x s).out)

/-- CBC.ENC executed by itself (R128). -/
def execCbcEnc (x : List Byte) (s : State) : Result :=
  onWholeBlocks x ((cbcEnc x s).state.withResBytes (cbcEnc x s).out)

/-- CBC.DEC executed by itself (R129). -/
def execCbcDec (x : List Byte) (s : State) : Result :=
  onWholeBlocks x ((cbcDec x s).state.withResBytes (cbcDec x s).out)

end Sys2Proof.Machine
end

