-- ==== Sys2Proof/Machine/Padding.lean ====
section
/-! DEFINITION. The padding engine: five PAD and five UNPAD operations (spec/44_padding.md, R105 to R121). -/

namespace Sys2Proof.Machine

/-- `count = 8 - (len mod 8)`, from 1 to 8 (R105). -/
def padCount (x : List Byte) : Nat := 8 - x.length % 8

/-- Every PAD: x itself when it is aligned, else x with `count` bytes of the scheme's tail (R105). -/
def padWith (tail : Nat → List Byte) (x : List Byte) : List Byte :=
  if padCount x = 8 then x else x ++ tail (padCount x)

/-- The tail of PKCS5: count bytes of value count (R106). -/
def tailPkcs5 (count : Nat) : List Byte := List.replicate count (BitVec.ofNat 8 count)

/-- The tail of ONE_AND_ZEROS: 0x80, then zeros (R107). -/
def tailOneAndZeros (count : Nat) : List Byte := 0x80#8 :: List.replicate (count - 1) 0x00#8

/-- The tail of LAST_BYTE: zeros, then the value count (R108). -/
def tailLastByte (count : Nat) : List Byte := List.replicate (count - 1) 0x00#8 ++ [BitVec.ofNat 8 count]

/-- The tail of NULL (R109). -/
def tailNull (count : Nat) : List Byte := List.replicate count 0x00#8

/-- The tail of SPACES (R110). -/
def tailSpaces (count : Nat) : List Byte := List.replicate count 0x20#8

def padPkcs5 (x : List Byte) : List Byte := padWith tailPkcs5 x
def padOneAndZeros (x : List Byte) : List Byte := padWith tailOneAndZeros x
def padLastByte (x : List Byte) : List Byte := padWith tailLastByte x
def padNull (x : List Byte) : List Byte := padWith tailNull x
def padSpaces (x : List Byte) : List Byte := padWith tailSpaces x

/-- A free cut kept within what R112 says of every cut: at most 7, and never more than there are bytes (R76). -/
def boundedCut (free : Nat) (y : List Byte) : Nat := free % (min 7 y.length + 1)

/-- Every UNPAD: y without its last `cut` bytes; the empty sequence is returned as it is (R112, R118). The rules state
the cut of whole blocks alone; of another sequence it is the bounded free value (notes/assumptions/13.md). -/
def unpadWith (cut free : List Byte → Nat) (y : List Byte) : List Byte :=
  if y.isEmpty then y
  else if wholeBlocks y then y.take (y.length - cut y)
  else y.take (y.length - boundedCut (free y) y)

/-- The bytes the scans look at, from the last one backwards, at most seven (R114, R116, D14). -/
def scanBytes (y : List Byte) : List Byte := y.reverse.take 7

/-- The cut of PKCS5 and LAST_BYTE: the last byte if it is below 8, else 0 (R113, R115). -/
def cutCount (y : List Byte) : Nat :=
  let v := y.getLastD 0
  if v.toNat < 8 then v.toNat else 0

/-- The scan for the marker 0x80, `i` the distance from the end of the first byte listed: it stops at the first byte that
is not 0x00, with the distance when that byte is 0x80 and with 0 otherwise, and exhausted with 0 (R114, D14, D15). -/
def markerDistance : Nat → List Byte → Nat
  | _, [] => 0
  | i, c :: rest => if c = 0x80#8 then i else if c = 0x00#8 then markerDistance (i + 1) rest else 0

/-- The cut of ONE_AND_ZEROS (R114). -/
def cutMarker (y : List Byte) : Nat := markerDistance 1 (scanBytes y)

/-- How many bytes from the first one listed are equal to the fill byte (R116). -/
def runLength (fill : Byte) : List Byte → Nat
  | [] => 0
  | c :: rest => if c = fill then runLength fill rest + 1 else 0

/-- The cut of NULL and SPACES: the trailing run of the fill byte, at most seven (R116, R117). -/
def cutFill (fill : Byte) (y : List Byte) : Nat := runLength fill (scanBytes y)

def unpadPkcs5 (y : List Byte) : List Byte := unpadWith cutCount Config.freeCutCount y
def unpadOneAndZeros (y : List Byte) : List Byte := unpadWith cutMarker Config.freeCutMarker y
def unpadLastByte (y : List Byte) : List Byte := unpadWith cutCount Config.freeCutCount y
def unpadNull (y : List Byte) : List Byte := unpadWith (cutFill 0x00#8) (Config.freeCutFill 0x00#8) y
def unpadSpaces (y : List Byte) : List Byte := unpadWith (cutFill 0x20#8) (Config.freeCutFill 0x20#8) y

/-- PAD.<PAD>: the operation the PAD field selects (R62). -/
def padBy : Padding → List Byte → List Byte
  | .pkcs5, x => padPkcs5 x
  | .oneAndZeros, x => padOneAndZeros x
  | .lastByte, x => padLastByte x
  | .null, x => padNull x
  | .spaces, x => padSpaces x

/-- UNPAD.<PAD>: the operation the PAD field selects (R62). -/
def unpadBy : Padding → List Byte → List Byte
  | .pkcs5, y => unpadPkcs5 y
  | .oneAndZeros, y => unpadOneAndZeros y
  | .lastByte, y => unpadLastByte y
  | .null, y => unpadNull y
  | .spaces, y => unpadSpaces y

/-- PAD.PKCS5 executed by itself (R106). -/
def execPadPkcs5 (x : List Byte) (s : State) : Result := .next (s.withResBytes (padPkcs5 x))
/-- PAD.ONE_AND_ZEROS executed by itself (R107). -/
def execPadOneAndZeros (x : List Byte) (s : State) : Result := .next (s.withResBytes (padOneAndZeros x))
/-- PAD.LAST_BYTE executed by itself (R108). -/
def execPadLastByte (x : List Byte) (s : State) : Result := .next (s.withResBytes (padLastByte x))
/-- PAD.NULL executed by itself (R109). -/
def execPadNull (x : List Byte) (s : State) : Result := .next (s.withResBytes (padNull x))
/-- PAD.SPACES executed by itself (R110). -/
def execPadSpaces (x : List Byte) (s : State) : Result := .next (s.withResBytes (padSpaces x))

/-- UNPAD.PKCS5 executed by itself (R113). -/
def execUnpadPkcs5 (y : List Byte) (s : State) : Result := .next (s.withResBytes (unpadPkcs5 y))
/-- UNPAD.ONE_AND_ZEROS executed by itself (R114). -/
def execUnpadOneAndZeros (y : List Byte) (s : State) : Result := .next (s.withResBytes (unpadOneAndZeros y))
/-- UNPAD.LAST_BYTE executed by itself (R115). -/
def execUnpadLastByte (y : List Byte) (s : State) : Result := .next (s.withResBytes (unpadLastByte y))
/-- UNPAD.NULL executed by itself (R116). -/
def execUnpadNull (y : List Byte) (s : State) : Result := .next (s.withResBytes (unpadNull y))
/-- UNPAD.SPACES executed by itself (R117). -/
def execUnpadSpaces (y : List Byte) (s : State) : Result := .next (s.withResBytes (unpadSpaces y))

end Sys2Proof.Machine
end

