-- ==== Sys2Proof/Machine/Commands.lean ====
section
/-! DEFINITION. The host commands INIT, SETIV, ENCODE, DECODE (spec/46_commands.md, R135 to R146): the checks first, then the
work, then the response (R135). -/

namespace Sys2Proof.Machine

/-- INIT M, PD with payload key (R136). -/
def execInit (m : BitVec 2) (pd : BitVec 3) (key : List Byte) (s : State) : Result :=
  match checkInit m pd key with
  | .error e => .next (reject e s)
  | .ok (mode, pad) => .next (accept [] ((runKsched key s).withConfig mode pad))

/-- SETIV with payload iv (R137). -/
def execSetiv (iv : List Byte) (s : State) : Result :=
  match checkSetiv iv s with
  | .error e => .next (reject e s)
  | .ok v => .next (accept [] (s.withIv v))

/-- ENCODE with payload x: pad, then encrypt (R138). -/
def execEncode (x : List Byte) (s : State) : Result :=
  match checkEncode s with
  | some e => .next (reject e s)
  | none =>
    let z := encBy s.mode (padBy s.pad x) s
    .next (accept z.out z.state)

/-- DECODE with payload z: decrypt, then unpad (R139). -/
def execDecode (z : List Byte) (s : State) : Result :=
  match checkDecode z s with
  | some e => .next (reject e s)
  | none =>
    let y := decBy s.mode z s
    .next (accept (unpadBy s.pad y.out) y.state)

end Sys2Proof.Machine
end

