-- ==== Sys2Proof/Machine/Dispatch.lean ====
section
/-! DEFINITION. One arm per constructor of Instr, each a direct call of its meaning. -/

namespace Sys2Proof.Machine

def exec (i : Instr) (s : State) : Host.Outcome State Fault Refusal :=
  match i with
  -- host commands (spec/46_commands.md)
  | .init m pd key => Sys2Proof.Machine.execInit m pd key s
  | .setiv iv => Sys2Proof.Machine.execSetiv iv s
  | .encode x => Sys2Proof.Machine.execEncode x s
  | .decode z => Sys2Proof.Machine.execDecode z s
  -- arithmetic (spec/40_arith.md)
  | .tou32 x => Sys2Proof.Machine.execTou32 x s
  | .add32 a b => Sys2Proof.Machine.execAdd32 a b s
  | .xor32 a b => Sys2Proof.Machine.execXor32 a b s
  | .pack32 b0 b1 b2 b3 => Sys2Proof.Machine.execPack32 b0 b1 b2 b3 s
  | .unpack32 w => Sys2Proof.Machine.execUnpack32 w s
  -- key schedule (spec/41_keysched.md) and Feistel engine (spec/43_feistel.md)
  | .ksched key => Sys2Proof.Machine.execKsched key s
  | .f x => Sys2Proof.Machine.execF x s
  | .encblk l r => Sys2Proof.Machine.execEncblk l r s
  | .decblk l r => Sys2Proof.Machine.execDecblk l r s
  -- padding engine (spec/44_padding.md)
  | .padPkcs5 x => Sys2Proof.Machine.execPadPkcs5 x s
  | .padOneAndZeros x => Sys2Proof.Machine.execPadOneAndZeros x s
  | .padLastByte x => Sys2Proof.Machine.execPadLastByte x s
  | .padNull x => Sys2Proof.Machine.execPadNull x s
  | .padSpaces x => Sys2Proof.Machine.execPadSpaces x s
  | .unpadPkcs5 y => Sys2Proof.Machine.execUnpadPkcs5 y s
  | .unpadOneAndZeros y => Sys2Proof.Machine.execUnpadOneAndZeros y s
  | .unpadLastByte y => Sys2Proof.Machine.execUnpadLastByte y s
  | .unpadNull y => Sys2Proof.Machine.execUnpadNull y s
  | .unpadSpaces y => Sys2Proof.Machine.execUnpadSpaces y s
  -- mode controller (spec/45_modes.md)
  | .ecbEnc x => Sys2Proof.Machine.execEcbEnc x s
  | .ecbDec x => Sys2Proof.Machine.execEcbDec x s
  | .cbcEnc x => Sys2Proof.Machine.execCbcEnc x s
  | .cbcDec x => Sys2Proof.Machine.execCbcDec x s

end Sys2Proof.Machine
end

