-- ==== Sys2Proof/Decode.lean ====
section
/-! DEFINITION. The decoder of spec/30_encoding.md (R50 to R59), total on every command, and after it the encoder, from
the same tables; the numbering of a word of spec/opcode_table.json. -/

namespace Sys2Proof

/-- The OP field, cmd[7:5] (R50). -/
def opField (cmd : Byte) : BitVec 3 := cmd.extractLsb' 5 3

/-- The M field of format K, cmd[4:3] (R51, R54). -/
def mField (cmd : Byte) : BitVec 2 := cmd.extractLsb' 3 2

/-- The PD field of format K, cmd[2:0] (R51, R55). -/
def pdField (cmd : Byte) : BitVec 3 := cmd.extractLsb' 0 3

/-- The ZERO field of format Z, cmd[4:0] (R52). -/
def zeroField (cmd : Byte) : BitVec 5 := cmd.extractLsb' 0 5

/-- Why a command byte is reserved (R57). -/
inductive Reserved where
  /-- OP is 0, 5, 6 or 7. -/
  | operation (op : BitVec 3)
  /-- A format-Z operation with a ZERO field that is not zero. -/
  | zeroFieldSet (op : BitVec 3) (zero : BitVec 5)
deriving DecidableEq, Repr

/-- What a command decodes to. -/
inductive Decoded where
  | instr (i : Instr)
  | reserved (why : Reserved)
deriving DecidableEq, Repr

/-- A format-Z command: its ZERO field must be zero (R52). -/
def decodeZ (cmd : Byte) (i : Instr) : Decoded :=
  if zeroField cmd = 0 then .instr i else .reserved (.zeroFieldSet (opField cmd) (zeroField cmd))

/-- The decoding of a command: a total function of the command byte, which reads no state (R59); the payload is the
operand, taken whole (R56). -/
def decode (c : Command) : Decoded :=
  if opField c.cmd = 1 then .instr (.init (mField c.cmd) (pdField c.cmd) c.din)
  else if opField c.cmd = 2 then decodeZ c.cmd (.setiv c.din)
  else if opField c.cmd = 3 then decodeZ c.cmd (.encode c.din)
  else if opField c.cmd = 4 then decodeZ c.cmd (.decode c.din)
  else .reserved (.operation (opField c.cmd))

/-- A format-K command byte: OP, M, PD from the top down (R51). -/
def byteK (op : BitVec 3) (m : BitVec 2) (pd : BitVec 3) : Byte := op ++ m ++ pd

/-- A format-Z command byte: OP and five zeros (R52). -/
def byteZ (op : BitVec 3) : Byte := op ++ 0#5

/-- The command of an operation: its command byte by the tables of R51 to R55 and its payload; `none` for an internal
operation, which has no encoding (R62). -/
def encode : Instr → Option Command
  | .init m pd key => some ⟨byteK 1 m pd, key⟩
  | .setiv iv => some ⟨byteZ 2, iv⟩
  | .encode x => some ⟨byteZ 3, x⟩
  | .decode z => some ⟨byteZ 4, z⟩
  | .tou32 _ => none
  | .add32 _ _ => none
  | .xor32 _ _ => none
  | .pack32 _ _ _ _ => none
  | .unpack32 _ => none
  | .ksched _ => none
  | .f _ => none
  | .encblk _ _ => none
  | .decblk _ _ => none
  | .padPkcs5 _ => none
  | .padOneAndZeros _ => none
  | .padLastByte _ => none
  | .padNull _ => none
  | .padSpaces _ => none
  | .unpadPkcs5 _ => none
  | .unpadOneAndZeros _ => none
  | .unpadLastByte _ => none
  | .unpadNull _ => none
  | .unpadSpaces _ => none
  | .ecbEnc _ => none
  | .ecbDec _ => none
  | .cbcEnc _ => none
  | .cbcDec _ => none

/-- The bytes of a table word: byte k is bits 8k+7 to 8k of `w`, as many whole bytes as `nbits` gives. -/
def tableBytes (nbits w : Nat) : List Byte :=
  (List.range (nbits / 8)).map fun k => BitVec.ofNat 8 (w / 2 ^ (8 * k))

/-- The command of a table word: the first byte is the command byte and the later bytes, if any, are the payload.
An internal row of the table gives no bits (`nbits = 0`), hence no command. -/
def tableCommand (nbits w : Nat) : Option Command :=
  match tableBytes nbits w with
  | [] => none
  | cmd :: din => some ⟨cmd, din⟩

/-- The operation the decoder reads from a table word, `none` where it refuses. -/
def decodeTableWord (nbits w : Nat) : Option Instr :=
  match tableCommand nbits w with
  | none => none
  | some c =>
    match decode c with
    | .instr i => some i
    | .reserved _ => none

end Sys2Proof
end

