-- ==== Sys2Proof/Machine/Fetch.lean ====
section
/-! DEFINITION. Taking the next command from the host, and placing one there. The core has no program counter and no stored
program: the order of execution is the order in which the host issues commands (R4, R11, R179). -/

namespace Sys2Proof.Machine

/-- The host's next command and the state in which it has been taken; none when the host has issued none. -/
def takeCommand (s : State) : Option (Command × State) :=
  match s.pending with
  | [] => none
  | c :: rest => some (c, s.withPending rest)

/-- A reserved command byte: ERR_CMD, whatever the payload and the state (R57, R153). -/
def execReserved (s : State) : Result := .next (reject .errCmd s)

/-- Between commands the core is idle with its state held (R166). -/
def execIdle (s : State) : Result := .next s

/-- The host issues the command of a table word next, before those it has still to issue; a table word without bits
(an internal row) places nothing. -/
def placeTableWord (s : State) (nbits w : Nat) : State :=
  match tableCommand nbits w with
  | none => s
  | some c => s.withPending (c :: s.pending)

end Sys2Proof.Machine
end

