-- ==== Sys2Proof/Machine/Step.lean ====
section
/-! DEFINITION. One step: one whole command, from its first step to its response (R4, R135). -/

namespace Sys2Proof.Machine

/-- EXEC of R135: take the host's next command, decode it, execute it; a reserved byte is rejected with ERR_CMD; with no
command issued the core stays idle. -/
def step (s : State) : Host.Outcome State Fault Refusal :=
  match takeCommand s with
  | none => execIdle s
  | some (c, s') =>
    match Sys2Proof.decode c with
    | .instr i => exec i s'
    | .reserved _ => execReserved s'

/-- The state in which the command of a table word is the next one the core executes. -/
def State.withFetchWord (s : State) (nbits w : Nat) : State := placeTableWord s nbits w

end Sys2Proof.Machine
end

