-- ==== Sys2Proof/Machine/Text.lean ====
section
/-! DEFINITION. The written form of commands and responses (R63, R64 of spec/30_encoding.md, decision D21): notation of the
spec's examples and test vectors; the hardware sees bytes. A line is assembled into a command and written as characters. -/

namespace Sys2Proof.Machine

/-- A line of the text syntax: the five forms of R63 and the two abbreviations of INIT of R64. A selector is the number of
its field, which its text names. -/
inductive Line where
  /-- `INIT <mode>, <padding>, <hex>` -/
  | init (m : BitVec 2) (pd : BitVec 3) (key : List Byte)
  /-- `INIT <mode>, <hex>` -/
  | initMode (m : BitVec 2) (key : List Byte)
  /-- `INIT <hex>` -/
  | initKey (key : List Byte)
  /-- `SETIV <hex>` -/
  | setiv (iv : List Byte)
  /-- `ENCODE <hex>` -/
  | encode (x : List Byte)
  /-- `DECODE <hex>` -/
  | decode (z : List Byte)
  /-- `RAW <byte>, <hex>` -/
  | raw (cmd : Byte) (din : List Byte)
deriving DecidableEq, Repr

/-- The full line an abbreviation stands for: ECB and PKCS5 where they are left out (R64, R140). -/
def Line.expand : Line → Line
  | .init m pd key => .init m pd key
  | .initMode m key => .init m 0 key
  | .initKey key => .init 0 0 key
  | .setiv iv => .setiv iv
  | .encode x => .encode x
  | .decode z => .decode z
  | .raw cmd din => .raw cmd din

/-- The command byte of a line: INIT gives 0x20 + 8*M + PD, SETIV 0x40, ENCODE 0x60, DECODE 0x80 (section 7 of
spec/30_encoding.md). -/
def Line.byte : Line → Byte
  | .init m pd _ => BitVec.ofNat 8 (0x20 + 8 * m.toNat + pd.toNat)
  | .initMode m _ => BitVec.ofNat 8 (0x20 + 8 * m.toNat)
  | .initKey _ => 0x20
  | .setiv _ => 0x40
  | .encode _ => 0x60
  | .decode _ => 0x80
  | .raw cmd _ => cmd

/-- The payload of a line. -/
def Line.payload : Line → List Byte
  | .init _ _ key => key
  | .initMode _ key => key
  | .initKey key => key
  | .setiv iv => iv
  | .encode x => x
  | .decode z => z
  | .raw _ din => din

/-- The command a line is assembled into. -/
def Line.assemble (a : Line) : Command := ⟨a.byte, a.payload⟩

/-- A hexadecimal digit. -/
def hexDigit (n : Nat) : Char :=
  ['0', '1', '2', '3', '4', '5', '6', '7', '8', '9', 'A', 'B', 'C', 'D', 'E', 'F'].getD (n % 16) '0'

/-- Two hexadecimal digits of a byte. -/
def hexByte (b : Byte) : List Char := [hexDigit (b.toNat / 16), hexDigit b.toNat]

/-- A payload: two digits per byte, first byte first, or `-` when it is empty. -/
def hexText (x : List Byte) : List Char := if x.isEmpty then ['-'] else x.flatMap hexByte

/-- The text of an M field. -/
def modeText (m : BitVec 2) : List Char :=
  if m = 0 then ['E', 'C', 'B'] else if m = 1 then ['C', 'B', 'C'] else ['#', hexDigit m.toNat]

/-- The text of a PD field. -/
def paddingText (pd : BitVec 3) : List Char :=
  if pd = 0 then ['P', 'K', 'C', 'S', '5']
  else if pd = 1 then ['O', 'N', 'E', '_', 'A', 'N', 'D', '_', 'Z', 'E', 'R', 'O', 'S']
  else if pd = 2 then ['L', 'A', 'S', 'T', '_', 'B', 'Y', 'T', 'E']
  else if pd = 3 then ['N', 'U', 'L', 'L']
  else if pd = 4 then ['S', 'P', 'A', 'C', 'E', 'S']
  else ['#', hexDigit pd.toNat]

/-- The characters of a line (R63, R64). -/
def Line.text : Line → List Char
  | .init m pd key => ['I', 'N', 'I', 'T', ' '] ++ modeText m ++ [',', ' '] ++ paddingText pd ++ [',', ' '] ++ hexText key
  | .initMode m key => ['I', 'N', 'I', 'T', ' '] ++ modeText m ++ [',', ' '] ++ hexText key
  | .initKey key => ['I', 'N', 'I', 'T', ' '] ++ hexText key
  | .setiv iv => ['S', 'E', 'T', 'I', 'V', ' '] ++ hexText iv
  | .encode x => ['E', 'N', 'C', 'O', 'D', 'E', ' '] ++ hexText x
  | .decode z => ['D', 'E', 'C', 'O', 'D', 'E', ' '] ++ hexText z
  | .raw cmd din => ['R', 'A', 'W', ' ', '0', 'x'] ++ hexByte cmd ++ [',', ' '] ++ hexText din

/-- The name of a status (R60). -/
def Status.text : Status → List Char
  | .ok => ['O', 'K']
  | .errCmd => ['E', 'R', 'R', '_', 'C', 'M', 'D']
  | .errNokey => ['E', 'R', 'R', '_', 'N', 'O', 'K', 'E', 'Y']
  | .errKey => ['E', 'R', 'R', '_', 'K', 'E', 'Y']
  | .errMode => ['E', 'R', 'R', '_', 'M', 'O', 'D', 'E']
  | .errPad => ['E', 'R', 'R', '_', 'P', 'A', 'D']
  | .errIv => ['E', 'R', 'R', '_', 'I', 'V']
  | .errLen => ['E', 'R', 'R', '_', 'L', 'E', 'N']

/-- The characters of an expected response: `=> <status name>`, then the output if there is any (R63). -/
def Response.text (r : Response) : List Char :=
  ['=', '>', ' '] ++ r.status.text ++ (if r.dout.isEmpty then [] else ' ' :: hexText r.dout)

end Sys2Proof.Machine
end

