-- ==== Sys2Proof/Safety.lean ====
section
/-! DEFINITION. The terms the claims are stated in: the architectural state, the invariant of R21, runs of commands and
their responses, the index form of the key schedule (R86), the round-trip cases of R119, and the software object of DOC00
that keeps its key (R20), against which the core is compared. -/

namespace Sys2Proof.Machine

/-- The architectural state: exactly the seven items of R12. -/
structure Arch where
  keyed : Bool
  mode : Mode
  pad : Padding
  ivValid : Bool
  iv : Vector Byte 8
  p : Vector Word 18
  s : Vector (Vector Word 256) 4
deriving DecidableEq, Repr

/-- The architectural state a state holds. -/
def State.arch (s : State) : Arch := ⟨s.keyed, s.mode, s.pad, s.ivValid, s.iv, s.p, s.s⟩

/-- The invariant of R21: (b) a keyed core holds the tables some non-empty key's schedule leaves; (c), (d) a valid IV only
on a keyed core. Part (a) and the legal values of MODE and PAD hold by the types. -/
structure Inv (s : State) : Prop where
  tables_of_key : s.keyed = true → ∃ key : List Byte, key ≠ [] ∧ s.tables = (ksched key).tables
  iv_of_keyed : s.ivValid = true → s.keyed = true

/-- The core answers: the step ends in a next state, neither a fault nor a refusal. -/
def Answers (s : State) : Prop := ∃ t, step s = .next t

/-- The host issues one command, with nothing behind it. -/
def issue (c : Command) (s : State) : Result := step (s.withPending [c])

/-- The state after the host has issued the commands one after another (R179); a run stops where a step does. -/
def afterAll : State → List Command → State
  | s, [] => s
  | s, c :: cs =>
    match issue c s with
    | .next t => afterAll t cs
    | .fault _ => s
    | .refused _ => s

/-- The responses the host gets to the commands, in order. -/
def serve : State → List Command → List Response
  | _, [] => []
  | s, c :: cs =>
    match issue c s with
    | .next t =>
      match t.response with
      | some r => r :: serve t cs
      | none => serve t cs
    | .fault _ => []
    | .refused _ => []

/-- The status of the response given last is OK. -/
def Accepted (t : State) : Prop := ∃ dout, t.response = some ⟨.ok, dout⟩

/-- PAD.<scheme> as an operation. -/
def padInstr : Padding → List Byte → Instr
  | .pkcs5, x => .padPkcs5 x
  | .oneAndZeros, x => .padOneAndZeros x
  | .lastByte, x => .padLastByte x
  | .null, x => .padNull x
  | .spaces, x => .padSpaces x

/-- UNPAD.<scheme> as an operation. -/
def unpadInstr : Padding → List Byte → Instr
  | .pkcs5, y => .unpadPkcs5 y
  | .oneAndZeros, y => .unpadOneAndZeros y
  | .lastByte, y => .unpadLastByte y
  | .null, y => .unpadNull y
  | .spaces, y => .unpadSpaces y

/-- <mode>.ENC as an operation. -/
def encInstr : Mode → List Byte → Instr
  | .ecb, x => .ecbEnc x
  | .cbc, x => .cbcEnc x

/-- <mode>.DEC as an operation. -/
def decInstr : Mode → List Byte → Instr
  | .ecb, x => .ecbDec x
  | .cbc, x => .cbcDec x

/-- Block k of a byte sequence as R125 gives it: bytes 8k to 8k+3 are the left word and 8k+4 to 8k+7 the right. -/
def blockAt (x : List Byte) (k : Nat) : Block :=
  ⟨pack32 (x.getD (8 * k) 0) (x.getD (8 * k + 1) 0) (x.getD (8 * k + 2) 0) (x.getD (8 * k + 3) 0),
    pack32 (x.getD (8 * k + 4) 0) (x.getD (8 * k + 5) 0) (x.getD (8 * k + 6) 0) (x.getD (8 * k + 7) 0)⟩

/-- Block k lies wholly inside a byte sequence. -/
def HasBlock (x : List Byte) (k : Nat) : Prop := 8 * k + 8 ≤ x.length

/-- The chain value a CBC operation starts from (R32). -/
def ivAsBlock (s : State) : Block := blockAt s.iv.toList 0

/-- The store of encryption n of the schedule: P[2n], P[2n+1] for n below 9, else S[b][2m], S[b][2m+1] with
b = (n - 9) / 128 and m = (n - 9) mod 128 (R86). -/
def storeOutput (n : Nat) (o : Block) (t : Tables) : Tables :=
  if n < 9 then { t with p := (t.p.setIfInBounds (2 * n) o.l).setIfInBounds (2 * n + 1) o.r }
  else
    { t with
      s := t.s.mapIdx fun b box =>
        if b = (n - 9) / 128 then
          (box.setIfInBounds (2 * ((n - 9) % 128)) o.l).setIfInBounds (2 * ((n - 9) % 128) + 1) o.r
        else box }

/-- The schedule of `key` by index: `tab n` are the tables that encryption n reads, `blk n` its input and `blk (n+1)` its
output, for n = 0 to 520; it starts from the tables phase 1 leaves and from the block (0, 0) (R82, R83, R84, R86). -/
structure ScheduleChain (key : List Byte) (tab : Nat → Tables) (blk : Nat → Block) : Prop where
  first_p : ∀ i : Fin 18, (tab 0).readP i = pInit[i.val] ^^^
    pack32 (key.getD ((4 * i.val) % key.length) 0) (key.getD ((4 * i.val + 1) % key.length) 0)
      (key.getD ((4 * i.val + 2) % key.length) 0) (key.getD ((4 * i.val + 3) % key.length) 0)
  first_s : (tab 0).s = sInit
  first_block : blk 0 = ⟨0, 0⟩
  encrypt : ∀ n, n < 521 → blk (n + 1) = encblk (tab n) (blk n)
  store : ∀ n, n < 521 → tab (n + 1) = storeOutput n (blk (n + 1)) (tab n)

/-- x ends in the marker 0x80 followed by k zero bytes, k below 7: the marker is at distance 1 to 7 from the end (R114). -/
def EndsInMarker (x : List Byte) : Prop :=
  ∃ (ys : List Byte) (k : Nat), k < 7 ∧ x = ys ++ 0x80#8 :: List.replicate k 0x00#8

/-- Exactly the cases of R119 in which UNPAD undoes PAD. -/
def RoundTrips : Padding → List Byte → Prop
  | .pkcs5, x => x.length % 8 ≠ 0 ∨ ∀ v, x.getLast? = some v → v = 0 ∨ 8 ≤ v.toNat
  | .lastByte, x => x.length % 8 ≠ 0 ∨ ∀ v, x.getLast? = some v → v = 0 ∨ 8 ≤ v.toNat
  | .oneAndZeros, x => x.length % 8 ≠ 0 ∨ ¬ EndsInMarker x
  | .null, x => x.getLast? ≠ some 0x00#8 ∨ x.length % 8 = 1
  | .spaces, x => x.getLast? ≠ some 0x20#8 ∨ x.length % 8 = 1

/-- DOC00's `CipherState` less `returnType`: it keeps its key, and the tables are recomputed from it (R20). -/
structure Cipher where
  key : List Byte
  mode : Mode
  pad : Padding
  iv : Option (Vector Byte 8)
deriving DecidableEq, Repr

/-- The tables a cipher uses. -/
def Cipher.tables (c : Cipher) : Tables := (ksched c.key).tables

/-- Encrypt whole blocks in a cipher's mode. -/
def Cipher.encrypt (c : Cipher) (iv : Vector Byte 8) (y : List Byte) : List Byte :=
  match c.mode with
  | .ecb => bytesOfBlocks ((blocks y).map (encblk c.tables))
  | .cbc => bytesOfBlocks (cbcEncBlocks c.tables (ivBlock iv) (blocks y))

/-- Decrypt whole blocks in a cipher's mode. -/
def Cipher.decrypt (c : Cipher) (iv : Vector Byte 8) (z : List Byte) : List Byte :=
  match c.mode with
  | .ecb => bytesOfBlocks ((blocks z).map (decblk c.tables))
  | .cbc => bytesOfBlocks (cbcDecBlocks c.tables (ivBlock iv) (blocks z))

/-- The IV a cipher operation uses: any in ECB mode, the one that is set in CBC mode. -/
def Cipher.ivFor (c : Cipher) : Option (Vector Byte 8) :=
  match c.mode with
  | .ecb => some (c.iv.getD (Vector.replicate 8 0))
  | .cbc => c.iv

/-- One call on the software object (`none` before it is constructed), by the rules of the four commands: the answer, and
the object after it (R136 to R139, R155). -/
def Cipher.call (o : Option Cipher) (c : Command) : Response × Option Cipher :=
  match decode c with
  | .reserved _ => (⟨.errCmd, []⟩, o)
  | .instr (.init m pd key) =>
    if key = [] then (⟨.errKey, []⟩, o)
    else
      match modeOf m, paddingOf pd with
      | none, _ => (⟨.errMode, []⟩, o)
      | some _, none => (⟨.errPad, []⟩, o)
      | some mode, some pad => (⟨.ok, []⟩, some ⟨key, mode, pad, none⟩)
  | .instr i =>
    match o with
    | none => (⟨.errNokey, []⟩, none)
    | some k =>
      match i with
      | .setiv iv =>
        match ivOf iv with
        | none => (⟨.errIv, []⟩, o)
        | some v => (⟨.ok, []⟩, some { k with iv := some v })
      | .encode x =>
        match k.ivFor with
        | none => (⟨.errIv, []⟩, o)
        | some v => (⟨.ok, k.encrypt v (padBy k.pad x)⟩, o)
      | .decode z =>
        if z.length % 8 ≠ 0 then (⟨.errLen, []⟩, o)
        else
          match k.ivFor with
          | none => (⟨.errIv, []⟩, o)
          | some v => (⟨.ok, unpadBy k.pad (k.decrypt v z)⟩, o)
      | _ => (⟨.errCmd, []⟩, o)

/-- The answers of the software object to the calls, in order. -/
def Cipher.serve : Option Cipher → List Command → List Response
  | _, [] => []
  | o, c :: cs => (Cipher.call o c).1 :: Cipher.serve (Cipher.call o c).2 cs

end Sys2Proof.Machine
end

