-- ==== Sys2Proof/Certificates/Slice0/Obligations.lean ====
section
/-! DEFINITION. The statements for the provers. Each docstring names the rule of spec/ it formalises. -/

open Sys2Proof Sys2Proof.Machine

/-! ## Reset, decoding, the step -/

/-- R24, R177: after reset the core is unkeyed with no valid IV, and the only command it accepts with OK is an INIT. (The
reset values of MODE, PAD, the IV, P and S are the model's choice, notes/assumptions/1.md; nothing here rests on them.) -/
def Obligations.ResetAcceptsOnlyInit : Prop :=
  State.reset.keyed = false ∧ State.reset.ivValid = false ∧
    ∀ c : Command, ∃ t, issue c State.reset = .next t ∧
      (Accepted t → ∃ m pd, decode c = .instr (.init m pd c.din))

/-- R51 to R55: command bytes written out bit by bit from the two formats decode to the commands they stand for. -/
def Obligations.SampleBytesDecode : Prop :=
  ∀ din : List Byte,
    decode ⟨0b00100000#8, din⟩ = .instr (.init 0 0 din) ∧
    decode ⟨0b00100011#8, din⟩ = .instr (.init 0 3 din) ∧
    decode ⟨0b00101100#8, din⟩ = .instr (.init 1 4 din) ∧
    decode ⟨0b00111111#8, din⟩ = .instr (.init 3 7 din) ∧
    decode ⟨0b01000000#8, din⟩ = .instr (.setiv din) ∧
    decode ⟨0b01100000#8, din⟩ = .instr (.encode din) ∧
    decode ⟨0b10000000#8, din⟩ = .instr (.decode din)

/-- R50 to R55, R59: decoding the command of any host operation gives the operation back, with every operand at every
value, and whatever decodes is the decoding of exactly that operation's command. -/
def Obligations.DecodeAndEncodeAgree : Prop :=
  (∀ i : Instr, i.isCommand = true → ∃ c, encode i = some c ∧ decode c = .instr i) ∧
    ∀ (c : Command) (i : Instr), decode c = .instr i → encode i = some c

/-- R57: the reserved command bytes are the ranges the rule lists, 221 values, and the core rejects each with ERR_CMD, an
empty output and no change of state, whatever the payload and the state. -/
def Obligations.ReservedBytesAreRejected : Prop :=
  (∀ c : Command, (∃ why, decode c = .reserved why) ↔
    c.cmd.toNat ≤ 0x1F ∨ (0x41 ≤ c.cmd.toNat ∧ c.cmd.toNat ≤ 0x5F) ∨ (0x61 ≤ c.cmd.toNat ∧ c.cmd.toNat ≤ 0x7F) ∨
      (0x81 ≤ c.cmd.toNat ∧ c.cmd.toNat ≤ 0x9F) ∨ 0xA0 ≤ c.cmd.toNat) ∧
  (∀ (c : Command) (why : Reserved) (rest : List Command) (s : State), decode c = .reserved why →
    step { s with pending := c :: rest } = .next { s with pending := rest, response := some ⟨.errCmd, []⟩ }) ∧
  ((List.range 256).filter fun n =>
    match decode ⟨BitVec.ofNat 8 n, []⟩ with
    | .reserved _ => true
    | .instr _ => false).length = 221

/-- R53, R59: the command is selected by match and mask, INIT takes M from bits 4:3 and PD from bits 2:0, the payload is
the operand, and a byte that matches none of the four is reserved. -/
def Obligations.DecodingByMatchAndMask : Prop :=
  ∀ c : Command,
    (c.cmd &&& 0xE0 = 0x20 ↔ ∃ m pd, decode c = .instr (.init m pd c.din)) ∧
    (∀ m pd key, decode c = .instr (.init m pd key) →
      m.toNat = c.cmd.toNat / 8 % 4 ∧ pd.toNat = c.cmd.toNat % 8 ∧ key = c.din) ∧
    (c.cmd &&& 0xFF = 0x40 ↔ decode c = .instr (.setiv c.din)) ∧
    (c.cmd &&& 0xFF = 0x60 ↔ decode c = .instr (.encode c.din)) ∧
    (c.cmd &&& 0xFF = 0x80 ↔ decode c = .instr (.decode c.din)) ∧
    ((c.cmd &&& 0xE0 ≠ 0x20 ∧ c.cmd ≠ 0x40 ∧ c.cmd ≠ 0x60 ∧ c.cmd ≠ 0x80) ↔ ∃ why, decode c = .reserved why)

/-- R62: no command runs an internal operation by itself. -/
def Obligations.NoCommandIsInternal : Prop :=
  ∀ (c : Command) (i : Instr), decode c = .instr i → i.isCommand = true ∧ i.wf = true

/-- R4, R135, R166: a step takes the next command the host issues and is the execution of the operation it decodes to, in
the state with that command taken; with no command issued the core is idle and its state is held. -/
def Obligations.StepRunsTheDecodedCommand : Prop :=
  (∀ (c : Command) (rest : List Command) (i : Instr) (s : State), decode c = .instr i →
    step { s with pending := c :: rest } = exec i { s with pending := rest }) ∧
  ∀ s : State, s.pending = [] → step s = .next s

/-! ## Arithmetic primitives -/

/-- R70: TOU32 is the identity on words, the unsigned reading of the signed one; nothing else changes. The result's
place is the model's (notes/assumptions/4.md). -/
def Obligations.Tou32IsTheUnsignedReading : Prop :=
  ∀ (x : Word) (s : State), ∃ w : Word, exec (.tou32 x) s = .next { s with resWord := w } ∧ w = x ∧
    (w.toNat : Int) = x.toInt % 2 ^ 32

/-- R71: ADD32 is addition modulo 2^32; the carry is recorded nowhere. The result's place is the model's
(notes/assumptions/4.md). -/
def Obligations.Add32IsSumModulo : Prop :=
  ∀ (a b : Word) (s : State), ∃ w : Word, exec (.add32 a b) s = .next { s with resWord := w } ∧
    w.toNat = (a.toNat + b.toNat) % 2 ^ 32

/-- R72: bit i of XOR32 is 1 exactly when the operands' bits i differ. The result's place is the model's
(notes/assumptions/4.md). -/
def Obligations.Xor32IsBitwise : Prop :=
  ∀ (a b : Word) (s : State), ∃ w : Word, exec (.xor32 a b) s = .next { s with resWord := w } ∧
    ∀ i, i < 32 → (w.getLsbD i = true ↔ a.getLsbD i ≠ b.getLsbD i)

/-- R73: PACK32 puts the first byte on top. The result's place is the model's (notes/assumptions/4.md). -/
def Obligations.Pack32IsBigEndian : Prop :=
  ∀ (b0 b1 b2 b3 : Byte) (s : State), ∃ w : Word, exec (.pack32 b0 b1 b2 b3) s = .next { s with resWord := w } ∧
    w.toNat = b0.toNat * 2 ^ 24 + b1.toNat * 2 ^ 16 + b2.toNat * 2 ^ 8 + b3.toNat

/-- R74: UNPACK32 gives the four bytes, most significant first. The result's place is the model's
(notes/assumptions/4.md). -/
def Obligations.Unpack32IsBigEndian : Prop :=
  ∀ (w : Word) (s : State), ∃ b0 b1 b2 b3 : Byte,
    exec (.unpack32 w) s = .next { s with resBytes := [b0, b1, b2, b3] } ∧
    b0.toNat = w.toNat / 16777216 % 256 ∧ b1.toNat = w.toNat / 65536 % 256 ∧
    b2.toNat = w.toNat / 256 % 256 ∧ b3.toNat = w.toNat % 256

/-- R75: PACK32 and UNPACK32 are inverse to each other. -/
def Obligations.PackAndUnpackAreInverse : Prop :=
  (∀ b0 b1 b2 b3 : Byte, unpack32 (pack32 b0 b1 b2 b3) = [b0, b1, b2, b3]) ∧
    ∀ w : Word, ∃ b0 b1 b2 b3 : Byte, unpack32 w = [b0, b1, b2, b3] ∧ pack32 b0 b1 b2 b3 = w

/-! ## Feistel engine -/

/-- R95: F looks up one entry per byte, most significant byte in S[0], and combines by add, xor, add, each sum modulo
2^32. The result's place is the model's (notes/assumptions/4.md). -/
def Obligations.FCombinesFourEntries : Prop :=
  ∀ (x : Word) (s : State) (a b c d : Fin 256),
    x.toNat = a.val * 2 ^ 24 + b.val * 2 ^ 16 + c.val * 2 ^ 8 + d.val →
    ∃ w : Word, exec (.f x) s = .next { s with resWord := w } ∧
      w.toNat = ((((s.s[0])[a.val].toNat + (s.s[1])[b.val].toNat) % 2 ^ 32 ^^^ (s.s[2])[c.val].toNat) +
        (s.s[3])[d.val].toNat) % 2 ^ 32

/-- R96: ENCBLK is sixteen rounds with P[0] to P[15], the last exchange undone, P[16] into r and P[17] into l; the
function the statements below call `encblk` is what the operation computes. That the block stands in L and R is the
model's reading (notes/assumptions/3.md). -/
def Obligations.EncblkIsSixteenRounds : Prop :=
  ∀ (l r : Word) (s : State), ∃ L R : Nat → Word, L 0 = l ∧ R 0 = r ∧
    (∀ i : Fin 16, L (i.val + 1) = R i.val ^^^ roundF s.tables (L i.val ^^^ s.p[i.val]) ∧
      R (i.val + 1) = L i.val ^^^ s.p[i.val]) ∧
    encblk s.tables ⟨l, r⟩ = ⟨R 16 ^^^ s.p[17], L 16 ^^^ s.p[16]⟩ ∧
    exec (.encblk l r) s = .next { s with lr := encblk s.tables ⟨l, r⟩ }

/-- R97: DECBLK is sixteen rounds with P[17] down to P[2], the last exchange undone, P[1] into r and P[0] into l; the
function the statements below call `decblk` is what the operation computes. That the block stands in L and R is the
model's reading (notes/assumptions/3.md). -/
def Obligations.DecblkIsSixteenRounds : Prop :=
  ∀ (l r : Word) (s : State), ∃ L R : Nat → Word, L 0 = l ∧ R 0 = r ∧
    (∀ i : Fin 16, L (i.val + 1) = R i.val ^^^ roundF s.tables (L i.val ^^^ s.p[17 - i.val]) ∧
      R (i.val + 1) = L i.val ^^^ s.p[17 - i.val]) ∧
    decblk s.tables ⟨l, r⟩ = ⟨R 16 ^^^ s.p[0], L 16 ^^^ s.p[1]⟩ ∧
    exec (.decblk l r) s = .next { s with lr := decblk s.tables ⟨l, r⟩ }

/-- R98: for any contents of P and S, DECBLK undoes ENCBLK and ENCBLK undoes DECBLK, for all words l and r. -/
def Obligations.DecblkAndEncblkAreInverse : Prop :=
  ∀ (t : Tables) (l r : Word), decblk t (encblk t ⟨l, r⟩) = ⟨l, r⟩ ∧ encblk t (decblk t ⟨l, r⟩) = ⟨l, r⟩

/-! ## Constants -/

/-- Section 1 of spec/42_init_constants.md: the xor and the sum modulo 2^32 of each table, and of all 1042 words. -/
def Obligations.InitialConstantsMeetTheirChecks : Prop :=
  ([pInit.toList, sInit[0].toList, sInit[1].toList, sInit[2].toList, sInit[3].toList, initWords].map fun t =>
      (t.length, t.head?, t.getLast?, t.foldl (fun a w => a ^^^ w) 0#32, t.foldl (fun a w => a + w) 0#32)) =
    [(18, some 0x243F6A88#32, some 0x8979FB1B#32, 0xB73AD7EA#32, 0x8E4D14CC#32),
      (256, some 0xD1310BA6#32, some 0x6E85076A#32, 0x4EB4DB7F#32, 0x4B745115#32),
      (256, some 0x4B7A70E9#32, some 0xDB83ADF7#32, 0xC727E122#32, 0x72FF37B2#32),
      (256, some 0xE93D5A68#32, some 0x406000E0#32, 0x462A5D01#32, 0x2AC02B91#32),
      (256, some 0x3A39CE37#32, some 0x3AC372E6#32, 0x1779E2BC#32, 0xF43E3A88#32),
      (1042, some 0x243F6A88#32, some 0x3AC372E6#32, 0x6FFA520A#32, 0x6BBF03AC#32)]

/-- R92 (which the spec marks as general knowledge, notes/assumptions/9.md): word number m of the constants, in the
order P_INIT, S_INIT[0] to S_INIT[3], is floor(frac(pi) * 2^(32*(m+1))) mod 2^32, for the real number pi. -/
def Obligations.InitialConstantsAreTheDigitsOfPi : Prop :=
  initWords.length = 1042 ∧ ∀ (m : Nat) (w : Word), initWords[m]? = some w →
    (w.toNat : Int) = ⌊Int.fract Real.pi * 2 ^ (32 * (m + 1))⌋ % 2 ^ 32

/-! ## Key schedule -/

/-- R80, R82 to R84, R86: KSCHED is the chain of 521 encryptions from (0, 0), each reading the tables as the stores before
it left them; it overwrites P and S, leaves the last block in L and R, and writes nothing else. (That L and R keep the last
block is the model's reading, notes/assumptions/3.md.) -/
def Obligations.KschedIsTheChain : Prop :=
  ∀ (key : List Byte) (s : State), key ≠ [] → ∃ (tab : Nat → Tables) (blk : Nat → Block), ScheduleChain key tab blk ∧
    exec (.ksched key) s = .next { s with p := (tab 521).p, s := (tab 521).s, lr := blk 521 }

/-- R86: after KSCHED, P[2n], P[2n+1] hold the output of encryption n for n = 0 to 8, and S[b][2m], S[b][2m+1] that of
encryption 9 + 128b + m. -/
def Obligations.KschedStoresEveryOutput : Prop :=
  ∀ (key : List Byte) (tab : Nat → Tables) (blk : Nat → Block) (s : State), key ≠ [] → ScheduleChain key tab blk →
    ∃ t, exec (.ksched key) s = .next t ∧
      (∀ n : Fin 9, t.p[2 * n.val] = (blk (n.val + 1)).l ∧ t.p[2 * n.val + 1] = (blk (n.val + 1)).r) ∧
      ∀ (b : Fin 4) (m : Fin 128), (t.s[b.val])[2 * m.val] = (blk (10 + 128 * b.val + m.val)).l ∧
        (t.s[b.val])[2 * m.val + 1] = (blk (10 + 128 * b.val + m.val)).r

/-- R80, R85: the key matters only through the 72 bytes of its cyclic stream; so repeating a key whole, or cutting it to 72
bytes, changes nothing, and neither do the tables that stood before. -/
def Obligations.KschedReadsOnlyTheKeyStream : Prop :=
  (∀ (k k' : List Byte) (s : State), k ≠ [] → k' ≠ [] →
    (∀ j, j < 72 → k.getD (j % k.length) 0 = k'.getD (j % k'.length) 0) →
    ∃ t, exec (.ksched k) s = .next t ∧ exec (.ksched k') s = .next t) ∧
  (∀ (k : List Byte) (n : Nat) (s : State), k ≠ [] → 0 < n →
    ∃ t, exec (.ksched k) s = .next t ∧ exec (.ksched (List.replicate n k).flatten) s = .next t) ∧
  (∀ (k : List Byte) (s : State), 72 ≤ k.length →
    ∃ t, exec (.ksched k) s = .next t ∧ exec (.ksched (k.take 72)) s = .next t) ∧
  ∀ (k : List Byte) (s s' : State), k ≠ [] → ∃ t t', exec (.ksched k) s = .next t ∧ exec (.ksched k) s' = .next t' ∧
    t.p = t'.p ∧ t.s = t'.s

/-! ## Padding engine -/

/-- R105 to R110: an aligned sequence is left as it is under every scheme; otherwise `c = 8 - (len mod 8)` bytes are
appended, which the scheme gives. The result's place is the model's (notes/assumptions/4.md). -/
def Obligations.PadAppendsItsTail : Prop :=
  ∀ (x : List Byte) (s : State),
    (x.length % 8 = 0 → ∀ d : Padding, exec (padInstr d x) s = .next { s with resBytes := x }) ∧
    ∀ c, 1 ≤ c → c ≤ 7 → (x.length + c) % 8 = 0 →
      exec (.padPkcs5 x) s = .next { s with resBytes := x ++ List.replicate c (BitVec.ofNat 8 c) } ∧
      exec (.padOneAndZeros x) s = .next { s with resBytes := x ++ [0x80#8] ++ List.replicate (c - 1) 0x00#8 } ∧
      exec (.padLastByte x) s =
        .next { s with resBytes := x ++ List.replicate (c - 1) 0x00#8 ++ [BitVec.ofNat 8 c] } ∧
      exec (.padNull x) s = .next { s with resBytes := x ++ List.replicate c 0x00#8 } ∧
      exec (.padSpaces x) s = .next { s with resBytes := x ++ List.replicate c 0x20#8 }

/-- R111: for every scheme the padded length is the least multiple of 8 that is not below the length, the sequence
stands first, at most 7 bytes are added, and the empty sequence stays empty. The result's place is the model's
(notes/assumptions/4.md). -/
def Obligations.PadReachesTheLeastMultiple : Prop :=
  ∀ (d : Padding) (x : List Byte) (s : State), ∃ y : List Byte, exec (padInstr d x) s = .next { s with resBytes := y } ∧
    y.length % 8 = 0 ∧ x.length ≤ y.length ∧ y.length ≤ x.length + 7 ∧ y.take x.length = x ∧
    (∀ n, n % 8 = 0 → x.length ≤ n → y.length ≤ n) ∧ (x = [] → y = [])

/-- R113, R115: UNPAD.PKCS5 and UNPAD.LAST_BYTE are one function, on every sequence; on whole blocks the last byte v is the
cut when it is below 8, and nothing is cut otherwise, and no other byte is looked at. The result's place is the model's
(notes/assumptions/4.md), and so is that the two run, and share a free cut, on a sequence that is not whole blocks
(notes/assumptions/13.md). -/
def Obligations.UnpadCutsByTheLastByte : Prop :=
  (∀ (y : List Byte) (s : State), ∃ z : List Byte, exec (.unpadPkcs5 y) s = .next { s with resBytes := z } ∧
    exec (.unpadLastByte y) s = .next { s with resBytes := z }) ∧
  ∀ (ys : List Byte) (v : Byte) (s : State), (ys.length + 1) % 8 = 0 →
    (v.toNat < 8 →
      exec (.unpadPkcs5 (ys ++ [v])) s = .next { s with resBytes := (ys ++ [v]).take (ys.length + 1 - v.toNat) } ∧
      exec (.unpadLastByte (ys ++ [v])) s = .next { s with resBytes := (ys ++ [v]).take (ys.length + 1 - v.toNat) }) ∧
    (8 ≤ v.toNat →
      exec (.unpadPkcs5 (ys ++ [v])) s = .next { s with resBytes := ys ++ [v] } ∧
      exec (.unpadLastByte (ys ++ [v])) s = .next { s with resBytes := ys ++ [v] })

/-- R114: UNPAD.ONE_AND_ZEROS cuts the marker 0x80 and the zeros after it when the marker is at distance 1 to 7 from
the end with only zeros after it, and nothing otherwise. The result's place is the model's (notes/assumptions/4.md).
-/
def Obligations.UnpadCutsAtTheMarker : Prop :=
  (∀ (ys : List Byte) (k : Nat) (s : State), k < 7 → (ys.length + 1 + k) % 8 = 0 →
    exec (.unpadOneAndZeros (ys ++ 0x80#8 :: List.replicate k 0x00#8)) s = .next { s with resBytes := ys }) ∧
  ∀ (y : List Byte) (s : State), y.length % 8 = 0 → ¬ EndsInMarker y →
    exec (.unpadOneAndZeros y) s = .next { s with resBytes := y }

/-- R116, R117: UNPAD.NULL and UNPAD.SPACES cut the trailing run of the fill byte, at most seven bytes: the run is
maximal, or seven bytes of it are cut whatever stands before. The result's place is the model's
(notes/assumptions/4.md). -/
def Obligations.UnpadCutsTheFillRun : Prop :=
  ∀ (ys : List Byte) (k : Nat) (s : State), k ≤ 7 → (ys.length + k) % 8 = 0 →
    ((k = 7 ∨ ys.getLast? ≠ some 0x00#8) →
      exec (.unpadNull (ys ++ List.replicate k 0x00#8)) s = .next { s with resBytes := ys }) ∧
    ((k = 7 ∨ ys.getLast? ≠ some 0x20#8) →
      exec (.unpadSpaces (ys ++ List.replicate k 0x20#8)) s = .next { s with resBytes := ys })

/-- R112, R118: on every sequence UNPAD returns its operand without its last `cut` bytes, cut in 0 to 7, at least one byte
left of whole blocks that are not empty; the empty sequence stays empty under every scheme. That an UNPAD runs on a
sequence that is not whole blocks, with a free cut within these bounds, is the model's choice
(notes/assumptions/13.md), and so is the result's place (notes/assumptions/4.md). -/
def Obligations.UnpadRemovesAtMostSeven : Prop :=
  ∀ (d : Padding) (y : List Byte) (s : State), ∃ cut, cut ≤ 7 ∧ cut ≤ y.length ∧
    (y.length % 8 = 0 → y ≠ [] → cut < y.length) ∧ (y = [] → cut = 0) ∧
    exec (unpadInstr d y) s = .next { s with resBytes := y.take (y.length - cut) }

/-- R119: UNPAD undoes PAD exactly in the cases the rule lists, and in all others removes too many bytes. The result's
place is the model's (notes/assumptions/4.md). -/
def Obligations.UnpadUndoesPadExactlyInTheListedCases : Prop :=
  ∀ (d : Padding) (x : List Byte) (s : State), ∃ y z : List Byte,
    exec (padInstr d x) s = .next { s with resBytes := y } ∧
    exec (unpadInstr d y) s = .next { s with resBytes := z } ∧
    (RoundTrips d x → z = x) ∧ (¬ RoundTrips d x → z <+: x ∧ z.length < x.length)

/-! ## Mode controller -/

/-- R125, R126: output block k of ECB.ENC is ENCBLK of input block k; the output has the input's length, and no state
but the working words L, R and the result changes. The result's place is the model's (notes/assumptions/4.md). -/
def Obligations.EcbEncEncryptsEachBlock : Prop :=
  ∀ (x : List Byte) (s : State), x.length % 8 = 0 → ∃ (out : List Byte) (b : Block),
    exec (.ecbEnc x) s = .next { s with resBytes := out, lr := b } ∧ out.length = x.length ∧
    ∀ k, HasBlock x k → blockAt out k = encblk s.tables (blockAt x k)

/-- R125, R127: output block k of ECB.DEC is DECBLK of input block k. The result's place is the model's
(notes/assumptions/4.md). -/
def Obligations.EcbDecDecryptsEachBlock : Prop :=
  ∀ (x : List Byte) (s : State), x.length % 8 = 0 → ∃ (out : List Byte) (b : Block),
    exec (.ecbDec x) s = .next { s with resBytes := out, lr := b } ∧ out.length = x.length ∧
    ∀ k, HasBlock x k → blockAt out k = decblk s.tables (blockAt x k)

/-- R32, R125, R128: each plaintext block is xored with the chain value and encrypted; the chain value is the IV
before block 0 and the ciphertext block before every other. The result's place is the model's
(notes/assumptions/4.md). -/
def Obligations.CbcEncChainsTheCiphertext : Prop :=
  ∀ (x : List Byte) (s : State), x.length % 8 = 0 → ∃ (out : List Byte) (b c : Block),
    exec (.cbcEnc x) s = .next { s with resBytes := out, lr := b, prev := c } ∧ out.length = x.length ∧
    (HasBlock x 0 → blockAt out 0 =
      encblk s.tables ⟨(ivAsBlock s).l ^^^ (blockAt x 0).l, (ivAsBlock s).r ^^^ (blockAt x 0).r⟩) ∧
    ∀ k, HasBlock x (k + 1) → blockAt out (k + 1) =
      encblk s.tables ⟨(blockAt out k).l ^^^ (blockAt x (k + 1)).l, (blockAt out k).r ^^^ (blockAt x (k + 1)).r⟩

/-- R32, R125, R129: each ciphertext block is decrypted and xored with the chain value, which is the IV before block 0
and the ciphertext block before every other. The result's place is the model's (notes/assumptions/4.md). -/
def Obligations.CbcDecChainsTheCiphertext : Prop :=
  ∀ (x : List Byte) (s : State), x.length % 8 = 0 → ∃ (out : List Byte) (b c : Block),
    exec (.cbcDec x) s = .next { s with resBytes := out, lr := b, prev := c } ∧ out.length = x.length ∧
    (HasBlock x 0 → blockAt out 0 =
      ⟨(decblk s.tables (blockAt x 0)).l ^^^ (ivAsBlock s).l, (decblk s.tables (blockAt x 0)).r ^^^ (ivAsBlock s).r⟩) ∧
    ∀ k, HasBlock x (k + 1) → blockAt out (k + 1) =
      ⟨(decblk s.tables (blockAt x (k + 1))).l ^^^ (blockAt x k).l,
        (decblk s.tables (blockAt x (k + 1))).r ^^^ (blockAt x k).r⟩

/-- R130: replacing one ciphertext block by another changes, in ECB, that plaintext block alone, and in CBC that
block, the next one by exactly the xor of the old and the new ciphertext block, and no other. The result's place is
the model's (notes/assumptions/4.md). -/
def Obligations.CorruptedBlockPropagation : Prop :=
  ∀ (x x' : List Byte) (k : Nat) (s : State), x.length % 8 = 0 → x'.length = x.length → HasBlock x k →
    blockAt x k ≠ blockAt x' k → (∀ j, HasBlock x j → j ≠ k → blockAt x j = blockAt x' j) →
    (∃ t t', exec (.ecbDec x) s = .next t ∧ exec (.ecbDec x') s = .next t' ∧
      blockAt t.resBytes k ≠ blockAt t'.resBytes k ∧
      ∀ j, HasBlock x j → j ≠ k → blockAt t.resBytes j = blockAt t'.resBytes j) ∧
    ∃ t t', exec (.cbcDec x) s = .next t ∧ exec (.cbcDec x') s = .next t' ∧
      blockAt t.resBytes k ≠ blockAt t'.resBytes k ∧
      (HasBlock x (k + 1) → blockAt t'.resBytes (k + 1) =
        ⟨(blockAt t.resBytes (k + 1)).l ^^^ (blockAt x k).l ^^^ (blockAt x' k).l,
          (blockAt t.resBytes (k + 1)).r ^^^ (blockAt x k).r ^^^ (blockAt x' k).r⟩) ∧
      ∀ j, HasBlock x j → j ≠ k → j ≠ k + 1 → blockAt t.resBytes j = blockAt t'.resBytes j

/-- R127, R129: in either mode, under the same tables and IV, the DEC operation undoes the ENC operation. The result's
place is the model's (notes/assumptions/4.md). -/
def Obligations.ModeDecryptionUndoesEncryption : Prop :=
  ∀ (m : Mode) (x : List Byte) (s : State), x.length % 8 = 0 → ∃ t u, exec (encInstr m x) s = .next t ∧
    exec (decInstr m t.resBytes) t = .next u ∧ u.resBytes = x ∧ u.arch = s.arch

/-- R131: the output of a mode operation has the input's length, and its block k depends only on input block k (ECB),
on input blocks 0 to k and the IV (CBC.ENC), on input blocks k - 1 and k, or on the IV and block 0 when k = 0
(CBC.DEC). The result's place is the model's (notes/assumptions/4.md). -/
def Obligations.OutputBlockDependencies : Prop :=
  (∀ (i : List Byte → Instr) (x : List Byte) (s : State), i ∈ [Instr.ecbEnc, .ecbDec, .cbcEnc, .cbcDec] →
    x.length % 8 = 0 → ∃ t, exec (i x) s = .next t ∧ t.resBytes.length = x.length) ∧
  ∀ (x x' : List Byte) (k : Nat) (iv : Vector Byte 8) (s : State), x.length % 8 = 0 → x'.length % 8 = 0 → HasBlock x k →
    HasBlock x' k → blockAt x k = blockAt x' k →
      (∃ t t', exec (.ecbEnc x) s = .next t ∧ exec (.ecbEnc x') { s with iv := iv } = .next t' ∧
        blockAt t.resBytes k = blockAt t'.resBytes k) ∧
      (∃ t t', exec (.ecbDec x) s = .next t ∧ exec (.ecbDec x') { s with iv := iv } = .next t' ∧
        blockAt t.resBytes k = blockAt t'.resBytes k) ∧
      ((∀ j, j < k → blockAt x j = blockAt x' j) →
        ∃ t t', exec (.cbcEnc x) s = .next t ∧ exec (.cbcEnc x') s = .next t' ∧
          blockAt t.resBytes k = blockAt t'.resBytes k) ∧
      (k = 0 → ∃ t t', exec (.cbcDec x) s = .next t ∧ exec (.cbcDec x') s = .next t' ∧
        blockAt t.resBytes k = blockAt t'.resBytes k) ∧
      ∀ j, k = j + 1 → blockAt x j = blockAt x' j →
        ∃ t t', exec (.cbcDec x) s = .next t ∧ exec (.cbcDec x') { s with iv := iv } = .next t' ∧
          blockAt t.resBytes k = blockAt t'.resBytes k

/-! ## Host commands -/

/-- R136, R141: INIT rejects an empty key, then M of 2 or 3, then PD of 5 to 7, and changes nothing then; otherwise P and S
are what KSCHED of the key leaves, MODE and PAD take the selected values, IV_VALID becomes 0 and KEYED 1, the IV's bits
stay, and the response is OK with no output. -/
def Obligations.InitFollowsItsRule : Prop :=
  ∀ (m : BitVec 2) (pd : BitVec 3) (key : List Byte) (s : State),
    (key = [] → exec (.init m pd key) s = .next { s with response := some ⟨.errKey, []⟩ }) ∧
    (key ≠ [] → 1 < m.toNat → exec (.init m pd key) s = .next { s with response := some ⟨.errMode, []⟩ }) ∧
    (key ≠ [] → m.toNat ≤ 1 → 4 < pd.toNat →
      exec (.init m pd key) s = .next { s with response := some ⟨.errPad, []⟩ }) ∧
    (key ≠ [] → ∀ mode pad, (m, mode) ∈ [(0, Mode.ecb), (1, Mode.cbc)] →
      (pd, pad) ∈ [(0, Padding.pkcs5), (1, Padding.oneAndZeros), (2, Padding.lastByte), (3, Padding.null),
        (4, Padding.spaces)] →
      ∃ (t : State) (b : Block), exec (.ksched key) s = .next t ∧
        exec (.init m pd key) s = .next { s with
          p := t.p, s := t.s, mode := mode, pad := pad, ivValid := false, keyed := true, lr := b,
          response := some ⟨.ok, []⟩ })

/-- R137: SETIV is rejected on an unkeyed core, then when its payload is not of 8 bytes; otherwise IV[k] becomes byte k of
the payload and IV_VALID 1, and nothing else changes. -/
def Obligations.SetivFollowsItsRule : Prop :=
  ∀ (iv : List Byte) (s : State),
    (s.keyed = false → exec (.setiv iv) s = .next { s with response := some ⟨.errNokey, []⟩ }) ∧
    (s.keyed = true → iv.length ≠ 8 → exec (.setiv iv) s = .next { s with response := some ⟨.errIv, []⟩ }) ∧
    (s.keyed = true → iv.length = 8 → ∃ v : Vector Byte 8, (∀ k : Fin 8, v[k.val] = iv.getD k.val 0) ∧
      exec (.setiv iv) s = .next { s with iv := v, ivValid := true, response := some ⟨.ok, []⟩ })

/-- R138: ENCODE is rejected on an unkeyed core, then in CBC mode while no IV is set; otherwise its output is
<MODE>.ENC of PAD.<PAD> of the payload, and no architectural state changes. The result's place is the model's
(notes/assumptions/4.md). -/
def Obligations.EncodeFollowsItsRule : Prop :=
  ∀ (x : List Byte) (s : State),
    (s.keyed = false → exec (.encode x) s = .next { s with response := some ⟨.errNokey, []⟩ }) ∧
    (s.keyed = true → s.mode = .cbc → s.ivValid = false →
      exec (.encode x) s = .next { s with response := some ⟨.errIv, []⟩ }) ∧
    (s.keyed = true → (s.mode = .ecb ∨ s.ivValid = true) → ∃ (t u : State) (b c : Block),
      exec (padInstr s.pad x) s = .next t ∧ exec (encInstr s.mode t.resBytes) s = .next u ∧
      exec (.encode x) s = .next { s with lr := b, prev := c, response := some ⟨.ok, u.resBytes⟩ })

/-- R139: DECODE is rejected on an unkeyed core, then when the length is not a multiple of 8, then in CBC mode while
no IV is set; otherwise its output is UNPAD.<PAD> of <MODE>.DEC of the payload, and no architectural state changes.
The result's place is the model's (notes/assumptions/4.md). -/
def Obligations.DecodeFollowsItsRule : Prop :=
  ∀ (z : List Byte) (s : State),
    (s.keyed = false → exec (.decode z) s = .next { s with response := some ⟨.errNokey, []⟩ }) ∧
    (s.keyed = true → z.length % 8 ≠ 0 → exec (.decode z) s = .next { s with response := some ⟨.errLen, []⟩ }) ∧
    (s.keyed = true → z.length % 8 = 0 → s.mode = .cbc → s.ivValid = false →
      exec (.decode z) s = .next { s with response := some ⟨.errIv, []⟩ }) ∧
    (s.keyed = true → z.length % 8 = 0 → (s.mode = .ecb ∨ s.ivValid = true) → ∃ (t u : State) (b c : Block),
      exec (decInstr s.mode z) s = .next t ∧ exec (unpadInstr s.pad t.resBytes) s = .next u ∧
      exec (.decode z) s = .next { s with lr := b, prev := c, response := some ⟨.ok, u.resBytes⟩ })

/-- R156: a command answered with a status that is not OK has an empty output and leaves everything as it was. -/
def Obligations.RejectionChangesNothing : Prop :=
  ∀ (c : Command) (rest : List Command) (s : State), ∃ (t : State) (r : Response),
    step { s with pending := c :: rest } = .next t ∧ t.response = some r ∧
    (r.status ≠ .ok → r.dout = [] ∧ t = { s with pending := rest, response := some r })

/-- R157: after a rejection every later command is answered exactly as if the rejected one had never been issued. -/
def Obligations.RejectedCommandAsIfNeverIssued : Prop :=
  ∀ (c : Command) (s : State), ∃ (t : State) (r : Response), issue c s = .next t ∧ t.response = some r ∧
    (r.status ≠ .ok → ∀ cs, serve t cs = serve s cs)

/-- R13 to R19, R22, R43: architectural state is written by an accepted INIT, which leaves KEYED 1, IV_VALID 0 and the IV's
bits as they were, and by an accepted SETIV, which writes the IV and IV_VALID alone; by nothing else. -/
def Obligations.OnlyInitAndSetivWrite : Prop :=
  ∀ (c : Command) (rest : List Command) (s : State), ∃ t, step { s with pending := c :: rest } = .next t ∧
    (t.arch = s.arch ∨
      (Accepted t ∧ (∃ m pd, decode c = .instr (.init m pd c.din)) ∧ t.keyed = true ∧ t.ivValid = false ∧ t.iv = s.iv) ∨
      (Accepted t ∧ decode c = .instr (.setiv c.din) ∧ s.keyed = true ∧
        t.arch = { s.arch with iv := t.iv, ivValid := true }))

/-- R144: issued in the same state, DECODE of what ENCODE returned is OK with UNPAD of PAD of the payload, which is
the payload exactly in the cases of R119. The result's place is the model's (notes/assumptions/4.md). -/
def Obligations.DecodeAfterEncode : Prop :=
  ∀ (x : List Byte) (s : State), s.keyed = true → (s.mode = .ecb ∨ s.ivValid = true) →
    ∃ (t u v w : State) (z : List Byte), exec (.encode x) s = .next t ∧ t.response = some ⟨.ok, z⟩ ∧
      exec (padInstr s.pad x) s = .next v ∧ exec (unpadInstr s.pad v.resBytes) s = .next w ∧
      exec (.decode z) t = .next u ∧ u.response = some ⟨.ok, w.resBytes⟩ ∧ u.arch = s.arch ∧
      (w.resBytes = x ↔ RoundTrips s.pad x)

/-! ## The whole machine -/

/-- R158, R5: the core answers in every state: no step faults or is refused, the command is taken, and it gets exactly one
response. -/
def Obligations.EveryStepAnswers : Prop :=
  ∀ s : State, Answers s ∧
    ∀ (c : Command) (rest : List Command), s.pending = c :: rest →
      ∃ t r, step s = .next t ∧ t.pending = rest ∧ t.response = some r

/-- R80, R125, U12: an operation completes exactly when its operands are in the domain its rule gives. Three clauses are
the model's choice: that KSCHED and a mode operation refuse by name outside the domain (notes/assumptions/5.md), that an
UNPAD runs on any sequence (notes/assumptions/13.md), and that an internal operation
executed by itself completes in every state, whatever KEYED and IV_VALID hold (notes/assumptions/6.md). -/
def Obligations.OperationsCompleteInTheirDomain : Prop :=
  ∀ (i : Instr) (s : State), (i.wf = true ↔ ∃ t, exec i s = .next t) ∧
    (i.wf = false → exec i s = .refused .emptyKey ∨ exec i s = .refused .partialBlock)

/-- R21: the invariant holds after every step and after every operation, from every state that meets it. -/
def Obligations.EveryStepKeepsTheInvariant : Prop :=
  (∀ s t : State, Inv s → step s = .next t → Inv t) ∧
    ∀ (i : Instr) (s t : State), Inv s → exec i s = .next t → Inv t

/-- R21: the invariant holds after reset. -/
def Obligations.ResetMeetsTheInvariant : Prop := Inv State.reset

/-- R24, R25: the values reset leaves unspecified never reach a response: two unkeyed states that hold anything else at all
answer every sequence of commands alike. -/
def Obligations.UnspecifiedResetValuesNeverMatter : Prop :=
  ∀ (s s' : State) (cs : List Command), s.keyed = false → s'.keyed = false → serve s cs = serve s' cs

/-- R10, R12, R23: nothing but the seven items of the architectural state survives from one command to the next: states that
agree on them answer every sequence of commands alike and end with the same architectural state. -/
def Obligations.OnlyArchitecturalStateSurvives : Prop :=
  ∀ (s s' : State) (cs : List Command), s.arch = s'.arch →
    serve s cs = serve s' cs ∧ (afterAll s cs).arch = (afterAll s' cs).arch

/-- R142, R182: after an accepted INIT no earlier key, mode, padding or IV has any effect on any later response. -/
def Obligations.InitReplacesEverything : Prop :=
  ∀ (c : Command) (cs : List Command) (s s' t : State), (∃ m pd, decode c = .instr (.init m pd c.din)) →
    issue c s = .next t → Accepted t → serve s (c :: cs) = serve s' (c :: cs)

/-- R20, R136 to R139: the core, which forgets its key, answers every sequence of commands as the software object does that
keeps its key and computes the tables from it. -/
def Obligations.CoreRefinesTheCipherObject : Prop :=
  (∀ (s : State) (cs : List Command), s.keyed = false → serve s cs = Cipher.serve none cs) ∧
    ∀ (s : State) (k : Cipher) (cs : List Command), s.keyed = true → s.tables = k.tables → s.mode = k.mode →
      s.pad = k.pad → k.iv = (if s.ivValid then some s.iv else none) → serve s cs = Cipher.serve (some k) cs

/-- R38, R132: doing the same command twice in a row leaves the same state and gives the same response as doing it once. -/
def Obligations.CommandsAreIdempotent : Prop :=
  ∀ (i : Instr) (s : State), i.isCommand = true → ∃ t, exec i s = .next t ∧ exec i t = .next t

/-- R143: in ECB mode SETIV is accepted and stores the IV as in CBC mode, and what the IV and IV_VALID hold has no effect
on any later response, of an ECB operation or, MODE changing only through INIT, of any other. -/
def Obligations.EcbIgnoresTheIv : Prop :=
  ∀ (s : State), s.mode = .ecb →
    (∀ iv : List Byte, s.keyed = true → iv.length = 8 → ∃ t, exec (.setiv iv) s = .next t ∧ Accepted t ∧
      t.arch = { s.arch with iv := t.iv, ivValid := true } ∧ ∀ k : Fin 8, t.iv[k.val] = iv.getD k.val 0) ∧
    ∀ (v : Vector Byte 8) (b : Bool) (cs : List Command), serve { s with iv := v, ivValid := b } cs = serve s cs

/-- R63, R64, R140: a line of the text syntax assembles into the command it is written for; an abbreviation of INIT
assembles as the full line it stands for. -/
def Obligations.LinesAssembleToCommands : Prop :=
  (∀ a : Line, a.expand.assemble = a.assemble) ∧
  (∀ m pd key, decode (Line.init m pd key).assemble = .instr (.init m pd key)) ∧
  (∀ m key, decode (Line.initMode m key).assemble = .instr (.init m 0 key)) ∧
  (∀ key, decode (Line.initKey key).assemble = .instr (.init 0 0 key)) ∧
  (∀ x, decode (Line.setiv x).assemble = .instr (.setiv x) ∧ decode (Line.encode x).assemble = .instr (.encode x) ∧
    decode (Line.decode x).assemble = .instr (.decode x)) ∧
  ∀ cmd din, (Line.raw cmd din).assemble = ⟨cmd, din⟩
end

