-- ==== Sys2Proof/Laws/State.lean ====
section
/-! SUPPORT. One lemma per field per update of State, true by rfl, and what each update does to the tables and to the
architectural state. -/

namespace Sys2Proof.Machine.State

@[simp] theorem withTables_keyed (u : State) (t : Tables) : (u.withTables t).keyed = u.keyed := by rfl
@[simp] theorem withTables_mode (u : State) (t : Tables) : (u.withTables t).mode = u.mode := by rfl
@[simp] theorem withTables_pad (u : State) (t : Tables) : (u.withTables t).pad = u.pad := by rfl
@[simp] theorem withTables_ivValid (u : State) (t : Tables) : (u.withTables t).ivValid = u.ivValid := by rfl
@[simp] theorem withTables_iv (u : State) (t : Tables) : (u.withTables t).iv = u.iv := by rfl
@[simp] theorem withTables_p (u : State) (t : Tables) : (u.withTables t).p = t.p := by rfl
@[simp] theorem withTables_s (u : State) (t : Tables) : (u.withTables t).s = t.s := by rfl
@[simp] theorem withTables_lr (u : State) (t : Tables) : (u.withTables t).lr = u.lr := by rfl
@[simp] theorem withTables_prev (u : State) (t : Tables) : (u.withTables t).prev = u.prev := by rfl
@[simp] theorem withTables_resWord (u : State) (t : Tables) : (u.withTables t).resWord = u.resWord := by rfl
@[simp] theorem withTables_resBytes (u : State) (t : Tables) : (u.withTables t).resBytes = u.resBytes := by rfl
@[simp] theorem withTables_pending (u : State) (t : Tables) : (u.withTables t).pending = u.pending := by rfl
@[simp] theorem withTables_response (u : State) (t : Tables) : (u.withTables t).response = u.response := by rfl
@[simp] theorem withTables_tables (u : State) (t : Tables) : (u.withTables t).tables = t := by rfl
@[simp] theorem withTables_arch (u : State) (t : Tables) : (u.withTables t).arch = ⟨u.keyed, u.mode, u.pad, u.ivValid, u.iv, t.p, t.s⟩ := by rfl

@[simp] theorem withLR_keyed (u : State) (b : Block) : (u.withLR b).keyed = u.keyed := by rfl
@[simp] theorem withLR_mode (u : State) (b : Block) : (u.withLR b).mode = u.mode := by rfl
@[simp] theorem withLR_pad (u : State) (b : Block) : (u.withLR b).pad = u.pad := by rfl
@[simp] theorem withLR_ivValid (u : State) (b : Block) : (u.withLR b).ivValid = u.ivValid := by rfl
@[simp] theorem withLR_iv (u : State) (b : Block) : (u.withLR b).iv = u.iv := by rfl
@[simp] theorem withLR_p (u : State) (b : Block) : (u.withLR b).p = u.p := by rfl
@[simp] theorem withLR_s (u : State) (b : Block) : (u.withLR b).s = u.s := by rfl
@[simp] theorem withLR_lr (u : State) (b : Block) : (u.withLR b).lr = b := by rfl
@[simp] theorem withLR_prev (u : State) (b : Block) : (u.withLR b).prev = u.prev := by rfl
@[simp] theorem withLR_resWord (u : State) (b : Block) : (u.withLR b).resWord = u.resWord := by rfl
@[simp] theorem withLR_resBytes (u : State) (b : Block) : (u.withLR b).resBytes = u.resBytes := by rfl
@[simp] theorem withLR_pending (u : State) (b : Block) : (u.withLR b).pending = u.pending := by rfl
@[simp] theorem withLR_response (u : State) (b : Block) : (u.withLR b).response = u.response := by rfl
@[simp] theorem withLR_tables (u : State) (b : Block) : (u.withLR b).tables = u.tables := by rfl
@[simp] theorem withLR_arch (u : State) (b : Block) : (u.withLR b).arch = u.arch := by rfl

@[simp] theorem withPrev_keyed (u : State) (b : Block) : (u.withPrev b).keyed = u.keyed := by rfl
@[simp] theorem withPrev_mode (u : State) (b : Block) : (u.withPrev b).mode = u.mode := by rfl
@[simp] theorem withPrev_pad (u : State) (b : Block) : (u.withPrev b).pad = u.pad := by rfl
@[simp] theorem withPrev_ivValid (u : State) (b : Block) : (u.withPrev b).ivValid = u.ivValid := by rfl
@[simp] theorem withPrev_iv (u : State) (b : Block) : (u.withPrev b).iv = u.iv := by rfl
@[simp] theorem withPrev_p (u : State) (b : Block) : (u.withPrev b).p = u.p := by rfl
@[simp] theorem withPrev_s (u : State) (b : Block) : (u.withPrev b).s = u.s := by rfl
@[simp] theorem withPrev_lr (u : State) (b : Block) : (u.withPrev b).lr = u.lr := by rfl
@[simp] theorem withPrev_prev (u : State) (b : Block) : (u.withPrev b).prev = b := by rfl
@[simp] theorem withPrev_resWord (u : State) (b : Block) : (u.withPrev b).resWord = u.resWord := by rfl
@[simp] theorem withPrev_resBytes (u : State) (b : Block) : (u.withPrev b).resBytes = u.resBytes := by rfl
@[simp] theorem withPrev_pending (u : State) (b : Block) : (u.withPrev b).pending = u.pending := by rfl
@[simp] theorem withPrev_response (u : State) (b : Block) : (u.withPrev b).response = u.response := by rfl
@[simp] theorem withPrev_tables (u : State) (b : Block) : (u.withPrev b).tables = u.tables := by rfl
@[simp] theorem withPrev_arch (u : State) (b : Block) : (u.withPrev b).arch = u.arch := by rfl

@[simp] theorem withResWord_keyed (u : State) (w : Word) : (u.withResWord w).keyed = u.keyed := by rfl
@[simp] theorem withResWord_mode (u : State) (w : Word) : (u.withResWord w).mode = u.mode := by rfl
@[simp] theorem withResWord_pad (u : State) (w : Word) : (u.withResWord w).pad = u.pad := by rfl
@[simp] theorem withResWord_ivValid (u : State) (w : Word) : (u.withResWord w).ivValid = u.ivValid := by rfl
@[simp] theorem withResWord_iv (u : State) (w : Word) : (u.withResWord w).iv = u.iv := by rfl
@[simp] theorem withResWord_p (u : State) (w : Word) : (u.withResWord w).p = u.p := by rfl
@[simp] theorem withResWord_s (u : State) (w : Word) : (u.withResWord w).s = u.s := by rfl
@[simp] theorem withResWord_lr (u : State) (w : Word) : (u.withResWord w).lr = u.lr := by rfl
@[simp] theorem withResWord_prev (u : State) (w : Word) : (u.withResWord w).prev = u.prev := by rfl
@[simp] theorem withResWord_resWord (u : State) (w : Word) : (u.withResWord w).resWord = w := by rfl
@[simp] theorem withResWord_resBytes (u : State) (w : Word) : (u.withResWord w).resBytes = u.resBytes := by rfl
@[simp] theorem withResWord_pending (u : State) (w : Word) : (u.withResWord w).pending = u.pending := by rfl
@[simp] theorem withResWord_response (u : State) (w : Word) : (u.withResWord w).response = u.response := by rfl
@[simp] theorem withResWord_tables (u : State) (w : Word) : (u.withResWord w).tables = u.tables := by rfl
@[simp] theorem withResWord_arch (u : State) (w : Word) : (u.withResWord w).arch = u.arch := by rfl

@[simp] theorem withResBytes_keyed (u : State) (x : List Byte) : (u.withResBytes x).keyed = u.keyed := by rfl
@[simp] theorem withResBytes_mode (u : State) (x : List Byte) : (u.withResBytes x).mode = u.mode := by rfl
@[simp] theorem withResBytes_pad (u : State) (x : List Byte) : (u.withResBytes x).pad = u.pad := by rfl
@[simp] theorem withResBytes_ivValid (u : State) (x : List Byte) : (u.withResBytes x).ivValid = u.ivValid := by rfl
@[simp] theorem withResBytes_iv (u : State) (x : List Byte) : (u.withResBytes x).iv = u.iv := by rfl
@[simp] theorem withResBytes_p (u : State) (x : List Byte) : (u.withResBytes x).p = u.p := by rfl
@[simp] theorem withResBytes_s (u : State) (x : List Byte) : (u.withResBytes x).s = u.s := by rfl
@[simp] theorem withResBytes_lr (u : State) (x : List Byte) : (u.withResBytes x).lr = u.lr := by rfl
@[simp] theorem withResBytes_prev (u : State) (x : List Byte) : (u.withResBytes x).prev = u.prev := by rfl
@[simp] theorem withResBytes_resWord (u : State) (x : List Byte) : (u.withResBytes x).resWord = u.resWord := by rfl
@[simp] theorem withResBytes_resBytes (u : State) (x : List Byte) : (u.withResBytes x).resBytes = x := by rfl
@[simp] theorem withResBytes_pending (u : State) (x : List Byte) : (u.withResBytes x).pending = u.pending := by rfl
@[simp] theorem withResBytes_response (u : State) (x : List Byte) : (u.withResBytes x).response = u.response := by rfl
@[simp] theorem withResBytes_tables (u : State) (x : List Byte) : (u.withResBytes x).tables = u.tables := by rfl
@[simp] theorem withResBytes_arch (u : State) (x : List Byte) : (u.withResBytes x).arch = u.arch := by rfl

@[simp] theorem withResponse_keyed (u : State) (r : Response) : (u.withResponse r).keyed = u.keyed := by rfl
@[simp] theorem withResponse_mode (u : State) (r : Response) : (u.withResponse r).mode = u.mode := by rfl
@[simp] theorem withResponse_pad (u : State) (r : Response) : (u.withResponse r).pad = u.pad := by rfl
@[simp] theorem withResponse_ivValid (u : State) (r : Response) : (u.withResponse r).ivValid = u.ivValid := by rfl
@[simp] theorem withResponse_iv (u : State) (r : Response) : (u.withResponse r).iv = u.iv := by rfl
@[simp] theorem withResponse_p (u : State) (r : Response) : (u.withResponse r).p = u.p := by rfl
@[simp] theorem withResponse_s (u : State) (r : Response) : (u.withResponse r).s = u.s := by rfl
@[simp] theorem withResponse_lr (u : State) (r : Response) : (u.withResponse r).lr = u.lr := by rfl
@[simp] theorem withResponse_prev (u : State) (r : Response) : (u.withResponse r).prev = u.prev := by rfl
@[simp] theorem withResponse_resWord (u : State) (r : Response) : (u.withResponse r).resWord = u.resWord := by rfl
@[simp] theorem withResponse_resBytes (u : State) (r : Response) : (u.withResponse r).resBytes = u.resBytes := by rfl
@[simp] theorem withResponse_pending (u : State) (r : Response) : (u.withResponse r).pending = u.pending := by rfl
@[simp] theorem withResponse_response (u : State) (r : Response) : (u.withResponse r).response = some r := by rfl
@[simp] theorem withResponse_tables (u : State) (r : Response) : (u.withResponse r).tables = u.tables := by rfl
@[simp] theorem withResponse_arch (u : State) (r : Response) : (u.withResponse r).arch = u.arch := by rfl

@[simp] theorem withPending_keyed (u : State) (cs : List Command) : (u.withPending cs).keyed = u.keyed := by rfl
@[simp] theorem withPending_mode (u : State) (cs : List Command) : (u.withPending cs).mode = u.mode := by rfl
@[simp] theorem withPending_pad (u : State) (cs : List Command) : (u.withPending cs).pad = u.pad := by rfl
@[simp] theorem withPending_ivValid (u : State) (cs : List Command) : (u.withPending cs).ivValid = u.ivValid := by rfl
@[simp] theorem withPending_iv (u : State) (cs : List Command) : (u.withPending cs).iv = u.iv := by rfl
@[simp] theorem withPending_p (u : State) (cs : List Command) : (u.withPending cs).p = u.p := by rfl
@[simp] theorem withPending_s (u : State) (cs : List Command) : (u.withPending cs).s = u.s := by rfl
@[simp] theorem withPending_lr (u : State) (cs : List Command) : (u.withPending cs).lr = u.lr := by rfl
@[simp] theorem withPending_prev (u : State) (cs : List Command) : (u.withPending cs).prev = u.prev := by rfl
@[simp] theorem withPending_resWord (u : State) (cs : List Command) : (u.withPending cs).resWord = u.resWord := by rfl
@[simp] theorem withPending_resBytes (u : State) (cs : List Command) : (u.withPending cs).resBytes = u.resBytes := by rfl
@[simp] theorem withPending_pending (u : State) (cs : List Command) : (u.withPending cs).pending = cs := by rfl
@[simp] theorem withPending_response (u : State) (cs : List Command) : (u.withPending cs).response = u.response := by rfl
@[simp] theorem withPending_tables (u : State) (cs : List Command) : (u.withPending cs).tables = u.tables := by rfl
@[simp] theorem withPending_arch (u : State) (cs : List Command) : (u.withPending cs).arch = u.arch := by rfl

@[simp] theorem withConfig_keyed (u : State) (m : Mode) (d : Padding) : (u.withConfig m d).keyed = true := by rfl
@[simp] theorem withConfig_mode (u : State) (m : Mode) (d : Padding) : (u.withConfig m d).mode = m := by rfl
@[simp] theorem withConfig_pad (u : State) (m : Mode) (d : Padding) : (u.withConfig m d).pad = d := by rfl
@[simp] theorem withConfig_ivValid (u : State) (m : Mode) (d : Padding) : (u.withConfig m d).ivValid = false := by rfl
@[simp] theorem withConfig_iv (u : State) (m : Mode) (d : Padding) : (u.withConfig m d).iv = u.iv := by rfl
@[simp] theorem withConfig_p (u : State) (m : Mode) (d : Padding) : (u.withConfig m d).p = u.p := by rfl
@[simp] theorem withConfig_s (u : State) (m : Mode) (d : Padding) : (u.withConfig m d).s = u.s := by rfl
@[simp] theorem withConfig_lr (u : State) (m : Mode) (d : Padding) : (u.withConfig m d).lr = u.lr := by rfl
@[simp] theorem withConfig_prev (u : State) (m : Mode) (d : Padding) : (u.withConfig m d).prev = u.prev := by rfl
@[simp] theorem withConfig_resWord (u : State) (m : Mode) (d : Padding) : (u.withConfig m d).resWord = u.resWord := by rfl
@[simp] theorem withConfig_resBytes (u : State) (m : Mode) (d : Padding) : (u.withConfig m d).resBytes = u.resBytes := by rfl
@[simp] theorem withConfig_pending (u : State) (m : Mode) (d : Padding) : (u.withConfig m d).pending = u.pending := by rfl
@[simp] theorem withConfig_response (u : State) (m : Mode) (d : Padding) : (u.withConfig m d).response = u.response := by rfl
@[simp] theorem withConfig_tables (u : State) (m : Mode) (d : Padding) : (u.withConfig m d).tables = u.tables := by rfl
@[simp] theorem withConfig_arch (u : State) (m : Mode) (d : Padding) : (u.withConfig m d).arch = ⟨true, m, d, false, u.iv, u.p, u.s⟩ := by rfl

@[simp] theorem withIv_keyed (u : State) (v : Vector Byte 8) : (u.withIv v).keyed = u.keyed := by rfl
@[simp] theorem withIv_mode (u : State) (v : Vector Byte 8) : (u.withIv v).mode = u.mode := by rfl
@[simp] theorem withIv_pad (u : State) (v : Vector Byte 8) : (u.withIv v).pad = u.pad := by rfl
@[simp] theorem withIv_ivValid (u : State) (v : Vector Byte 8) : (u.withIv v).ivValid = true := by rfl
@[simp] theorem withIv_iv (u : State) (v : Vector Byte 8) : (u.withIv v).iv = v := by rfl
@[simp] theorem withIv_p (u : State) (v : Vector Byte 8) : (u.withIv v).p = u.p := by rfl
@[simp] theorem withIv_s (u : State) (v : Vector Byte 8) : (u.withIv v).s = u.s := by rfl
@[simp] theorem withIv_lr (u : State) (v : Vector Byte 8) : (u.withIv v).lr = u.lr := by rfl
@[simp] theorem withIv_prev (u : State) (v : Vector Byte 8) : (u.withIv v).prev = u.prev := by rfl
@[simp] theorem withIv_resWord (u : State) (v : Vector Byte 8) : (u.withIv v).resWord = u.resWord := by rfl
@[simp] theorem withIv_resBytes (u : State) (v : Vector Byte 8) : (u.withIv v).resBytes = u.resBytes := by rfl
@[simp] theorem withIv_pending (u : State) (v : Vector Byte 8) : (u.withIv v).pending = u.pending := by rfl
@[simp] theorem withIv_response (u : State) (v : Vector Byte 8) : (u.withIv v).response = u.response := by rfl
@[simp] theorem withIv_tables (u : State) (v : Vector Byte 8) : (u.withIv v).tables = u.tables := by rfl
@[simp] theorem withIv_arch (u : State) (v : Vector Byte 8) : (u.withIv v).arch = ⟨u.keyed, u.mode, u.pad, true, v, u.p, u.s⟩ := by rfl

@[simp] theorem tables_p (u : State) : u.tables.p = u.p := by rfl
@[simp] theorem tables_s (u : State) : u.tables.s = u.s := by rfl
@[simp] theorem arch_keyed (u : State) : u.arch.keyed = u.keyed := by rfl
@[simp] theorem arch_mode (u : State) : u.arch.mode = u.mode := by rfl
@[simp] theorem arch_pad (u : State) : u.arch.pad = u.pad := by rfl
@[simp] theorem arch_ivValid (u : State) : u.arch.ivValid = u.ivValid := by rfl
@[simp] theorem arch_iv (u : State) : u.arch.iv = u.iv := by rfl
@[simp] theorem arch_p (u : State) : u.arch.p = u.p := by rfl
@[simp] theorem arch_s (u : State) : u.arch.s = u.s := by rfl

end Sys2Proof.Machine.State
end

