-- ==== Sys2Proof/Laws/Ops.lean ====
section
/-! SUPPORT. The laws of the shared operations: table entries read after a write, the response a command gives, the domain
check of the block operations. -/

namespace Sys2Proof.Machine

theorem Tables.readP_writeP_same (t : Tables) (i : Fin 18) (v : Word) : (t.writeP i v).readP i = v := by
  simp [Tables.readP, Tables.writeP]

theorem Tables.readP_writeP_other (t : Tables) (i j : Fin 18) (v : Word) (h : i ≠ j) :
    (t.writeP i v).readP j = t.readP j := by
  have : i.val ≠ j.val := fun e => h (Fin.ext e)
  simp [Tables.readP, Tables.writeP, this]

@[simp] theorem Tables.writeP_s (t : Tables) (i : Fin 18) (v : Word) : (t.writeP i v).s = t.s := rfl

@[simp] theorem Tables.readS_writeP (t : Tables) (i : Fin 18) (v : Word) (b : Fin 4) (e : Fin 256) :
    (t.writeP i v).readS b e = t.readS b e := rfl

theorem Tables.readS_writeS_same (t : Tables) (b : Fin 4) (e : Fin 256) (v : Word) :
    (t.writeS b e v).readS b e = v := by
  simp [Tables.readS, Tables.writeS]

theorem Tables.readS_writeS_other (t : Tables) (b c : Fin 4) (e d : Fin 256) (v : Word) (h : b ≠ c ∨ e ≠ d) :
    (t.writeS b e v).readS c d = t.readS c d := by
  by_cases hb : b = c
  · subst hb
    have hd : e.val ≠ d.val := fun q => (h.resolve_left (fun n => n rfl)) (Fin.ext q)
    simp [Tables.readS, Tables.writeS, hd]
  · have : b.val ≠ c.val := fun q => hb (Fin.ext q)
    simp [Tables.readS, Tables.writeS, this]

@[simp] theorem Tables.writeS_p (t : Tables) (b : Fin 4) (e : Fin 256) (v : Word) : (t.writeS b e v).p = t.p := rfl

@[simp] theorem reject_arch (e : Status) (s : State) : (reject e s).arch = s.arch := rfl
@[simp] theorem reject_response (e : Status) (s : State) : (reject e s).response = some ⟨e, []⟩ := rfl
@[simp] theorem reject_pending (e : Status) (s : State) : (reject e s).pending = s.pending := rfl
@[simp] theorem accept_arch (x : List Byte) (s : State) : (accept x s).arch = s.arch := rfl
@[simp] theorem accept_response (x : List Byte) (s : State) : (accept x s).response = some ⟨.ok, x⟩ := rfl
@[simp] theorem accept_pending (x : List Byte) (s : State) : (accept x s).pending = s.pending := rfl

@[simp] theorem wholeBlocks_iff (x : List Byte) : wholeBlocks x = true ↔ x.length % 8 = 0 := by
  simp [wholeBlocks]

theorem onWholeBlocks_of_whole (x : List Byte) (s : State) (h : x.length % 8 = 0) : onWholeBlocks x s = .next s := by
  simp [onWholeBlocks, h]

theorem onWholeBlocks_of_partial (x : List Byte) (s : State) (h : x.length % 8 ≠ 0) :
    onWholeBlocks x s = .refused .partialBlock := by
  simp [onWholeBlocks, h]

/-- Everything the domain check can answer. -/
theorem onWholeBlocks_next (x : List Byte) (s t : State) (h : onWholeBlocks x s = .next t) :
    x.length % 8 = 0 ∧ t = s := by
  unfold onWholeBlocks at h
  split at h <;> simp_all

end Sys2Proof.Machine
end

