-- ==== Sys2Proof/Laws/Blocks.lean ====
section
/-! SUPPORT. The laws of payloads as blocks (R31, R125): lengths. -/

namespace Sys2Proof.Machine

@[simp] theorem unpack32_length (w : Word) : (unpack32 w).length = 4 := rfl

@[simp] theorem blockBytes_length (b : Block) : (blockBytes b).length = 8 := rfl

@[simp] theorem bytesOfBlocks_nil : bytesOfBlocks [] = [] := rfl

@[simp] theorem bytesOfBlocks_cons (b : Block) (bs : List Block) :
    bytesOfBlocks (b :: bs) = blockBytes b ++ bytesOfBlocks bs := rfl

theorem bytesOfBlocks_length (bs : List Block) : (bytesOfBlocks bs).length = 8 * bs.length := by
  induction bs with
  | nil => rfl
  | cons b bs ih => simp [ih]; omega

theorem bytesOfBlocks_whole (bs : List Block) : (bytesOfBlocks bs).length % 8 = 0 := by
  simp [bytesOfBlocks_length]

end Sys2Proof.Machine
end

