-- ==== Sys2Proof/Laws/Commands.lean ====
section
/-! SUPPORT. Everything each command can do, said once: it is rejected for a named cause with nothing but the response
changed, or it is accepted with the effect named. -/

namespace Sys2Proof.Machine

/-- The working words alone differ, if anything does: what a mode operation leaves (R131, R132). -/
@[simp] theorem encBy_arch (m : Mode) (x : List Byte) (s : State) : (encBy m x s).state.arch = s.arch := by
  cases m <;> rfl

@[simp] theorem decBy_arch (m : Mode) (x : List Byte) (s : State) : (decBy m x s).state.arch = s.arch := by
  cases m <;> rfl

@[simp] theorem encBy_pending (m : Mode) (x : List Byte) (s : State) : (encBy m x s).state.pending = s.pending := by
  cases m <;> rfl

@[simp] theorem decBy_pending (m : Mode) (x : List Byte) (s : State) : (decBy m x s).state.pending = s.pending := by
  cases m <;> rfl

@[simp] theorem runKsched_tables (key : List Byte) (s : State) : (runKsched key s).tables = (ksched key).tables := by
  simp [runKsched]

@[simp] theorem runKsched_pending (key : List Byte) (s : State) : (runKsched key s).pending = s.pending := by
  simp [runKsched]

/-- ENCODE's checks by cases of the three items they read (R138, R155). -/
theorem checkEncode_eq (s : State) : checkEncode s =
    match s.keyed, s.mode, s.ivValid with
    | false, _, _ => some .errNokey
    | true, .cbc, false => some .errIv
    | true, _, _ => none := by
  unfold checkEncode ivMissing
  cases s.keyed <;> cases s.mode <;> cases s.ivValid <;> rfl

/-- DECODE's checks by cases of what they read (R139, R155). -/
theorem checkDecode_eq (z : List Byte) (s : State) : checkDecode z s =
    match s.keyed, wholeBlocks z, s.mode, s.ivValid with
    | false, _, _, _ => some .errNokey
    | true, false, _, _ => some .errLen
    | true, true, .cbc, false => some .errIv
    | true, true, _, _ => none := by
  unfold checkDecode ivMissing
  cases s.keyed <;> cases wholeBlocks z <;> cases s.mode <;> cases s.ivValid <;> rfl

/-- INIT: rejected by its checks, or accepted with a mode and a scheme its selectors name. -/
theorem execInit_cases (m : BitVec 2) (pd : BitVec 3) (key : List Byte) (s : State) :
    (∃ e, checkInit m pd key = .error e ∧ execInit m pd key s = .next (reject e s)) ∨
    (∃ mode pad, key ≠ [] ∧ modeOf m = some mode ∧ paddingOf pd = some pad ∧
      execInit m pd key s = .next (accept [] ((runKsched key s).withConfig mode pad))) := by
  unfold execInit
  cases h : checkInit m pd key with
  | error e => exact .inl ⟨e, rfl, rfl⟩
  | ok q =>
    refine .inr ⟨q.1, q.2, ?_⟩
    cases hk : key.isEmpty <;> cases hm : modeOf m <;> cases hp : paddingOf pd <;>
      simp [checkInit, hk, hm, hp] at h
    subst h
    exact ⟨by rintro rfl; simp at hk, rfl, rfl, rfl⟩

/-- SETIV: rejected by its checks, or accepted on a keyed core with the eight bytes as the IV. -/
theorem execSetiv_cases (iv : List Byte) (s : State) :
    (∃ e, checkSetiv iv s = .error e ∧ execSetiv iv s = .next (reject e s)) ∨
    (∃ v, s.keyed = true ∧ ivOf iv = some v ∧ execSetiv iv s = .next (accept [] (s.withIv v))) := by
  unfold execSetiv
  cases h : checkSetiv iv s with
  | error e => exact .inl ⟨e, rfl, rfl⟩
  | ok v =>
    refine .inr ⟨v, ?_⟩
    cases hk : s.keyed <;> cases hv : ivOf iv <;> simp [checkSetiv, hk, hv] at h
    exact ⟨rfl, by rw [h], rfl⟩

/-- ENCODE: rejected by its checks, or accepted with the ciphertext of the padded payload. -/
theorem execEncode_cases (x : List Byte) (s : State) :
    (∃ e, checkEncode s = some e ∧ execEncode x s = .next (reject e s)) ∨
    (checkEncode s = none ∧
      execEncode x s = .next (accept (encBy s.mode (padBy s.pad x) s).out (encBy s.mode (padBy s.pad x) s).state)) := by
  unfold execEncode
  cases h : checkEncode s with
  | some e => exact .inl ⟨e, rfl, rfl⟩
  | none => exact .inr ⟨rfl, rfl⟩

/-- DECODE: rejected by its checks, or accepted with the unpadded plaintext. -/
theorem execDecode_cases (z : List Byte) (s : State) :
    (∃ e, checkDecode z s = some e ∧ execDecode z s = .next (reject e s)) ∨
    (checkDecode z s = none ∧
      execDecode z s = .next (accept (unpadBy s.pad (decBy s.mode z s).out) (decBy s.mode z s).state)) := by
  unfold execDecode
  cases h : checkDecode z s with
  | some e => exact .inl ⟨e, rfl, rfl⟩
  | none => exact .inr ⟨rfl, rfl⟩

end Sys2Proof.Machine
end

