-- ==== Sys2Proof/Laws/Padding.lean ====
section
/-! SUPPORT. What an UNPAD does, said once: the cut its rule states of whole blocks, and the bounds of the free cut of any
other sequence (R112, R118, notes/assumptions/13.md). -/

namespace Sys2Proof.Machine

/-- A free cut is at most 7, whatever the free value is. -/
theorem boundedCut_le_seven (free : Nat) (y : List Byte) : boundedCut free y ≤ 7 := by
  have : free % (min 7 y.length + 1) < min 7 y.length + 1 := Nat.mod_lt _ (by omega)
  unfold boundedCut
  omega

/-- A free cut is at most the length, whatever the free value is. -/
theorem boundedCut_le_length (free : Nat) (y : List Byte) : boundedCut free y ≤ y.length := by
  have : free % (min 7 y.length + 1) < min 7 y.length + 1 := Nat.mod_lt _ (by omega)
  unfold boundedCut
  omega

@[simp] theorem unpadWith_nil (cut free : List Byte → Nat) : unpadWith cut free [] = [] := rfl

theorem unpadWith_of_whole (cut free : List Byte → Nat) (y : List Byte) (hn : y ≠ []) (h : y.length % 8 = 0) :
    unpadWith cut free y = y.take (y.length - cut y) := by
  simp [unpadWith, hn, h]

theorem unpadWith_of_partial (cut free : List Byte → Nat) (y : List Byte) (h : y.length % 8 ≠ 0) :
    unpadWith cut free y = y.take (y.length - boundedCut (free y) y) := by
  have hn : y ≠ [] := by rintro rfl; simp at h
  simp [unpadWith, hn, h]

end Sys2Proof.Machine
end

