-- ==== Sys2Proof/Laws/PerInstr.lean ====
section
/-! SUPPORT. Per-instruction families. `EncodedWf`: an operation that has an encoding is well-formed whatever it carries
(R58: a bad selector or length is the command's to reject), and only a host command has one (R62). -/

namespace Sys2Proof.Laws.EncodedWf

/-- An operation with an encoding is a host command and is well-formed. -/
def Statement (i : Instr) : Prop := (encode i).isSome = true → i.isCommand = true ∧ i.wf = true

theorem init (m : BitVec 2) (pd : BitVec 3) (key : List Byte) : Statement (.init m pd key) := fun _ => ⟨rfl, rfl⟩
theorem setiv (x : List Byte) : Statement (.setiv x) := fun _ => ⟨rfl, rfl⟩
theorem encode (x : List Byte) : Statement (.encode x) := fun _ => ⟨rfl, rfl⟩
theorem decode (x : List Byte) : Statement (.decode x) := fun _ => ⟨rfl, rfl⟩
theorem tou32 (x : Word) : Statement (.tou32 x) := fun h => nomatch h
theorem add32 (a b : Word) : Statement (.add32 a b) := fun h => nomatch h
theorem xor32 (a b : Word) : Statement (.xor32 a b) := fun h => nomatch h
theorem pack32 (b0 b1 b2 b3 : Byte) : Statement (.pack32 b0 b1 b2 b3) := fun h => nomatch h
theorem unpack32 (w : Word) : Statement (.unpack32 w) := fun h => nomatch h
theorem ksched (x : List Byte) : Statement (.ksched x) := fun h => nomatch h
theorem f (x : Word) : Statement (.f x) := fun h => nomatch h
theorem encblk (l r : Word) : Statement (.encblk l r) := fun h => nomatch h
theorem decblk (l r : Word) : Statement (.decblk l r) := fun h => nomatch h
theorem padPkcs5 (x : List Byte) : Statement (.padPkcs5 x) := fun h => nomatch h
theorem padOneAndZeros (x : List Byte) : Statement (.padOneAndZeros x) := fun h => nomatch h
theorem padLastByte (x : List Byte) : Statement (.padLastByte x) := fun h => nomatch h
theorem padNull (x : List Byte) : Statement (.padNull x) := fun h => nomatch h
theorem padSpaces (x : List Byte) : Statement (.padSpaces x) := fun h => nomatch h
theorem unpadPkcs5 (x : List Byte) : Statement (.unpadPkcs5 x) := fun h => nomatch h
theorem unpadOneAndZeros (x : List Byte) : Statement (.unpadOneAndZeros x) := fun h => nomatch h
theorem unpadLastByte (x : List Byte) : Statement (.unpadLastByte x) := fun h => nomatch h
theorem unpadNull (x : List Byte) : Statement (.unpadNull x) := fun h => nomatch h
theorem unpadSpaces (x : List Byte) : Statement (.unpadSpaces x) := fun h => nomatch h
theorem ecbEnc (x : List Byte) : Statement (.ecbEnc x) := fun h => nomatch h
theorem ecbDec (x : List Byte) : Statement (.ecbDec x) := fun h => nomatch h
theorem cbcEnc (x : List Byte) : Statement (.cbcEnc x) := fun h => nomatch h
theorem cbcDec (x : List Byte) : Statement (.cbcDec x) := fun h => nomatch h

end Sys2Proof.Laws.EncodedWf
end

