-- ==== Sys2Proof/Laws/Pi.lean ====
section
/-! SUPPORT. R92 towards pi itself: the 1042 words, as one number, are the first 33344 bits of the fractional part of pi.
Machin's formula `pi = 16 arctan(1/5) - 4 arctan(1/239)` is summed in 33408-bit fixed point, 64 bits more than the words
need, by the kernel, and the rounding and the cut of the two series are bounded. -/

namespace Sys2Proof.Machine

/-- The terms of arctan(1/k) in fixed point, each rounded down: `pow` is the scaled power of 1/k of the present term, and
the two sums, of the present sign and of the other, change places at every term; `total` bounds the number of terms. -/
def atanSums (k total fuel : Nat) : Nat → Nat → Nat → Nat × Nat :=
  Nat.rec (motive := fun _ => Nat → Nat → Nat → Nat × Nat) (fun _ same other => (same, other))
    (fun n next pow same other =>
      match pow / (k * k), same + pow / (2 * (total - n) - 1) with
      | 0, s => (other, s)
      | p + 1, 0 => next (p + 1) other 0
      | p + 1, s + 1 => next (p + 1) other (s + 1)) fuel

/-- arctan(1/k) scaled by 2^bits, from at most `total` terms. -/
def atanFixed (bits k total : Nat) : Nat :=
  let q := atanSums k total total (2 ^ bits / k) 0 0
  if q.1 < q.2 then q.2 - q.1 else q.1 - q.2

/-- One term of the sums. -/
theorem atanSums_succ (k total n pow same other : Nat) :
    atanSums k total (n + 1) pow same other =
      if pow / (k * k) = 0 then (other, same + pow / (2 * (total - n) - 1))
      else atanSums k total n (pow / (k * k)) other (same + pow / (2 * (total - n) - 1)) := by
  have h : atanSums k total (n + 1) pow same other =
      match pow / (k * k), same + pow / (2 * (total - n) - 1) with
      | 0, s => (other, s)
      | p + 1, 0 => atanSums k total n (p + 1) other 0
      | p + 1, s + 1 => atanSums k total n (p + 1) other (s + 1) := rfl
  rw [h]
  generalize pow / (k * k) = p
  generalize same + pow / (2 * (total - n) - 1) = s
  cases p <;> cases s <;> simp

/-- What the sums come to: the alternating sum of the first m terms, all later ones being 0 in fixed point. -/
theorem atanSums_spec (k total : Nat) : ∀ n j pow same other : Nat, j + n = total →
    ∃ m, m ≤ n ∧ (m = n ∨ pow / (k * k) ^ m = 0) ∧
      (((atanSums k total n pow same other).1 : Int) - (atanSums k total n pow same other).2) =
        (-1) ^ m * (same - other +
          ∑ i ∈ Finset.range m, (-1 : Int) ^ i * ((pow / (k * k) ^ i / (2 * (j + i) + 1) : Nat) : Int)) := by
  intro n
  induction n with
  | zero => intro j pow same other _; exact ⟨0, le_refl _, .inl rfl, by simp [atanSums]⟩
  | succ n ih =>
    intro j pow same other hj
    have hd : 2 * (total - n) - 1 = 2 * j + 1 := by omega
    rw [atanSums_succ, hd]
    split
    · rename_i h0
      refine ⟨1, by omega, .inr (by simpa using h0), ?_⟩
      simp
      ring
    · obtain ⟨m, hmn, hm, he⟩ := ih (j + 1) (pow / (k * k)) other (same + pow / (2 * j + 1)) (by omega)
      refine ⟨m + 1, by omega, ?_, ?_⟩
      · rcases hm with rfl | hm
        · exact .inl rfl
        · exact .inr (by rw [Nat.div_div_eq_div_mul, ← pow_succ'] at hm; exact hm)
      · rw [he, Finset.sum_range_succ']
        have : ∀ i, pow / (k * k) / (k * k) ^ i / (2 * (j + 1 + i) + 1) =
            pow / (k * k) ^ (i + 1) / (2 * (j + (i + 1)) + 1) := fun i => by
          rw [Nat.div_div_eq_div_mul pow, ← pow_succ']
          congr 2; ring
        simp only [this]
        have e : ∑ i ∈ Finset.range m, (-1 : Int) ^ (i + 1) *
              ((pow / (k * k) ^ (i + 1) / (2 * (j + (i + 1)) + 1) : Nat) : Int) =
            - ∑ i ∈ Finset.range m, (-1 : Int) ^ i *
              ((pow / (k * k) ^ (i + 1) / (2 * (j + (i + 1)) + 1) : Nat) : Int) := by
          rw [← Finset.sum_neg_distrib]
          exact Finset.sum_congr rfl fun i _ => by ring
        rw [e]
        push_cast
        simp
        ring

/-- Rounding down costs at most one unit. -/
theorem floor_close (a b : Nat) (hb : 0 < b) : |((a / b : Nat) : Real) - (a : Real) / b| ≤ 1 := by
  have h := Nat.div_add_mod a b
  have hm := Nat.mod_lt a hb
  have hb' : (0 : Real) < b := by exact_mod_cast hb
  have e : (a : Real) / b = ((a / b : Nat) : Real) + ((a % b : Nat) : Real) / b := by
    field_simp
    exact_mod_cast h.symm.trans (by ring)
  rw [e]
  have h0 : (0 : Real) ≤ ((a % b : Nat) : Real) / b := by positivity
  have h1 : ((a % b : Nat) : Real) / b ≤ 1 := by
    rw [div_le_one hb']; exact_mod_cast hm.le
  rw [abs_le]; constructor <;> linarith

/-- Rounding each term down costs at most one unit a term, and so does cutting the series. -/
theorem atanFixed_close (bits k total : Nat) (hk : 1 < k) (hb : 2 ^ bits < k ^ (2 * total + 1)) :
    |(atanFixed bits k total : Real) - 2 ^ bits * Real.arctan (k : Real)⁻¹| ≤ total + 1 := by
  obtain ⟨m, hmn, hm, he⟩ := atanSums_spec k total total 0 (2 ^ bits / k) 0 0 (by omega)
  have hk0 : (1 : Real) < k := by exact_mod_cast hk
  have hx0 : (0 : Real) < (k : Real)⁻¹ := by positivity
  have hx1 : (k : Real)⁻¹ < 1 := inv_lt_one_of_one_lt₀ hk0
  set V : Real := 2 ^ bits * Real.arctan (k : Real)⁻¹ with hV
  have hV0 : 0 ≤ V := by
    have := Real.arctan_nonneg.mpr hx0.le
    positivity
  -- the fixed-point sum
  have hterm : ∀ i, 2 ^ bits / k / (k * k) ^ i / (2 * i + 1) = 2 ^ bits / (k ^ (2 * i + 1) * (2 * i + 1)) := fun i => by
    rw [Nat.div_div_eq_div_mul, Nat.div_div_eq_div_mul]; congr 1; ring
  simp only [Nat.cast_zero, sub_zero, zero_add, hterm] at he
  have hfix : (atanFixed bits k total : Real) =
      |∑ i ∈ Finset.range m, (-1 : Real) ^ i * ((2 ^ bits / (k ^ (2 * i + 1) * (2 * i + 1)) : Nat) : Real)| := by
    have h1 : (atanFixed bits k total : Int) =
        |((atanSums k total total (2 ^ bits / k) 0 0).1 : Int) - (atanSums k total total (2 ^ bits / k) 0 0).2| := by
      unfold atanFixed
      generalize atanSums k total total (2 ^ bits / k) 0 0 = q
      dsimp only
      split
      · rw [abs_of_nonpos (by omega)]; omega
      · rw [abs_of_nonneg (by omega)]; omega
    rw [he, abs_mul, abs_pow, abs_neg, abs_one, one_pow, one_mul] at h1
    have h2 := congrArg (fun z : Int => (z : Real)) h1
    simpa only [Int.cast_natCast, Int.cast_abs, Int.cast_sum, Int.cast_mul, Int.cast_pow, Int.cast_neg,
      Int.cast_one] using h2
  -- the series
  have hsum := Real.hasSum_arctan (x := (k : Real)⁻¹) (by rw [Real.norm_of_nonneg hx0.le]; exact hx1)
  have hanti : Antitone fun i : Nat => (k : Real)⁻¹ ^ (2 * i + 1) / ((2 * i + 1 : Nat) : Real) := by
    intro a b hab
    have : (k : Real)⁻¹ ^ (2 * b + 1) ≤ (k : Real)⁻¹ ^ (2 * a + 1) :=
      pow_le_pow_of_le_one hx0.le hx1.le (by omega)
    have hc : ((2 * a + 1 : Nat) : Real) ≤ ((2 * b + 1 : Nat) : Real) := by exact_mod_cast (by omega)
    exact div_le_div₀ (by positivity) this (by positivity) hc
  have hsm : Summable fun i : Nat => (k : Real)⁻¹ ^ (2 * i + 1) / ((2 * i + 1 : Nat) : Real) := by
    have hg : Summable fun i : Nat => (k : Real)⁻¹ ^ i := summable_geometric_of_lt_one hx0.le hx1
    refine Summable.of_nonneg_of_le (fun i => by positivity) (fun i => ?_) hg
    refine (div_le_self (by positivity) (by exact_mod_cast (by omega))).trans ?_
    exact pow_le_pow_of_le_one hx0.le hx1.le (by omega)
  have herr := alternating_series_error_bound _ hanti hsm m
  have htsum : ∑' i : Nat, (-1 : Real) ^ i * ((k : Real)⁻¹ ^ (2 * i + 1) / ((2 * i + 1 : Nat) : Real)) =
      Real.arctan (k : Real)⁻¹ := by
    rw [← hsum.tsum_eq]; exact tsum_congr fun i => by rw [mul_div_assoc]
  rw [htsum] at herr
  -- the first term left out is below one unit
  have hlt : 2 ^ bits < k ^ (2 * m + 1) := by
    rcases hm with rfl | hm
    · exact hb
    · rw [Nat.div_div_eq_div_mul, Nat.div_eq_zero_iff] at hm
      have e : k * (k * k) ^ m = k ^ (2 * m + 1) := by ring
      rw [e] at hm
      rcases hm with h | h
      · exact absurd h (by positivity)
      · exact h
  have htail : 2 ^ bits * ((k : Real)⁻¹ ^ (2 * m + 1) / ((2 * m + 1 : Nat) : Real)) ≤ 1 := by
    have hlt' : (2 : Real) ^ bits ≤ (k : Real) ^ (2 * m + 1) := by exact_mod_cast hlt.le
    have hc : (1 : Real) ≤ ((2 * m + 1 : Nat) : Real) := by exact_mod_cast (by omega)
    have hp : (0 : Real) < (k : Real) ^ (2 * m + 1) := by positivity
    calc 2 ^ bits * ((k : Real)⁻¹ ^ (2 * m + 1) / ((2 * m + 1 : Nat) : Real))
        ≤ (k : Real) ^ (2 * m + 1) * (k : Real)⁻¹ ^ (2 * m + 1) :=
          mul_le_mul hlt' (div_le_self (by positivity) hc) (by positivity) hp.le
      _ = 1 := by rw [← mul_pow, mul_inv_cancel₀ (by positivity), one_pow]
  -- together
  have hround : |∑ i ∈ Finset.range m, (-1 : Real) ^ i * ((2 ^ bits / (k ^ (2 * i + 1) * (2 * i + 1)) : Nat) : Real) -
      2 ^ bits * ∑ i ∈ Finset.range m, (-1 : Real) ^ i * ((k : Real)⁻¹ ^ (2 * i + 1) / ((2 * i + 1 : Nat) : Real))| ≤ m := by
    rw [Finset.mul_sum, ← Finset.sum_sub_distrib]
    refine (Finset.abs_sum_le_sum_abs _ _).trans ?_
    have : ∀ i ∈ Finset.range m, |(-1 : Real) ^ i * ((2 ^ bits / (k ^ (2 * i + 1) * (2 * i + 1)) : Nat) : Real) -
        2 ^ bits * ((-1 : Real) ^ i * ((k : Real)⁻¹ ^ (2 * i + 1) / ((2 * i + 1 : Nat) : Real)))| ≤ 1 := fun i _ => by
      have h := floor_close (2 ^ bits) (k ^ (2 * i + 1) * (2 * i + 1)) (by positivity)
      have e : (-1 : Real) ^ i * ((2 ^ bits / (k ^ (2 * i + 1) * (2 * i + 1)) : Nat) : Real) -
          2 ^ bits * ((-1 : Real) ^ i * ((k : Real)⁻¹ ^ (2 * i + 1) / ((2 * i + 1 : Nat) : Real))) =
          (-1) ^ i * (((2 ^ bits / (k ^ (2 * i + 1) * (2 * i + 1)) : Nat) : Real) -
            ((2 ^ bits : Nat) : Real) / ((k ^ (2 * i + 1) * (2 * i + 1) : Nat) : Real)) := by
        push_cast
        rw [inv_pow, div_mul_eq_div_div, div_eq_mul_inv (2 ^ bits : Real)]
        ring
      rw [e, abs_mul, abs_pow, abs_neg, abs_one, one_pow, one_mul]
      exact h
    exact (Finset.sum_le_sum this).trans (by simp)
  have hcut : |2 ^ bits * ∑ i ∈ Finset.range m, (-1 : Real) ^ i * ((k : Real)⁻¹ ^ (2 * i + 1) / ((2 * i + 1 : Nat) : Real)) - V| ≤ 1 := by
    rw [hV, ← mul_sub, abs_mul, abs_of_pos (by positivity : (0 : Real) < 2 ^ bits), abs_sub_comm]
    exact (mul_le_mul_of_nonneg_left herr (by positivity)).trans htail
  rw [hfix]
  have h3 := abs_abs_sub_abs_le_abs_sub
    (∑ i ∈ Finset.range m, (-1 : Real) ^ i * ((2 ^ bits / (k ^ (2 * i + 1) * (2 * i + 1)) : Nat) : Real)) V
  rw [abs_of_nonneg hV0] at h3
  have h4 := abs_sub_le
    (∑ i ∈ Finset.range m, (-1 : Real) ^ i * ((2 ^ bits / (k ^ (2 * i + 1) * (2 * i + 1)) : Nat) : Real))
    (2 ^ bits * ∑ i ∈ Finset.range m, (-1 : Real) ^ i * ((k : Real)⁻¹ ^ (2 * i + 1) / ((2 * i + 1 : Nat) : Real))) V
  have hm' : (m : Real) ≤ total := by exact_mod_cast hmn
  linarith

/-- The words in order as one number, the first on top. -/
@[irreducible] def initNumber : Nat := initWords.foldl (fun n w => n * 2 ^ 32 + w.toNat) 0

/-- Machin's formula in 33408-bit fixed point, less 3. -/
@[irreducible] def machin : Nat := 16 * atanFixed 33408 5 7300 - 4 * atanFixed 33408 239 2200 - 3 * 2 ^ 33408

/-- The words are the first 33344 bits of Machin's series, and the 64 bits after them are far from a carry. -/
theorem machin_digits :
    machin / 2 ^ 64 = initNumber ∧ 2 ^ 20 ≤ machin % 2 ^ 64 ∧ machin % 2 ^ 64 + 2 ^ 20 ≤ 2 ^ 64 ∧
      2 ^ 33408 < 5 ^ (2 * 7300 + 1) ∧ 2 ^ 33408 < 239 ^ (2 * 2200 + 1) ∧
      4 * atanFixed 33408 239 2200 + 3 * 2 ^ 33408 ≤ 16 * atanFixed 33408 5 7300 := by
  decide +kernel

/-- The words as one number are the whole part of the fractional part of pi, scaled by 2^33344 (R92). -/
theorem initNumber_pi : (initNumber : Real) ≤ (Real.pi - 3) * 2 ^ 33344 ∧ (Real.pi - 3) * 2 ^ 33344 < initNumber + 1 := by
  obtain ⟨hd, hlo, hhi, h5, h239, hle⟩ := machin_digits
  have c5 := atanFixed_close 33408 5 7300 (by norm_num) h5
  have c239 := atanFixed_close 33408 239 2200 (by norm_num) h239
  have hm : (machin : Real) = 16 * (atanFixed 33408 5 7300 : Real) - 4 * (atanFixed 33408 239 2200 : Real) - 3 * 2 ^ 33408 := by
    have : machin + (4 * atanFixed 33408 239 2200 + 3 * 2 ^ 33408) = 16 * atanFixed 33408 5 7300 := by
      unfold machin; omega
    have h := congrArg (fun n : Nat => (n : Real)) this
    push_cast at h
    linarith
  have hpi := Real.four_mul_arctan_inv_5_sub_arctan_inv_239
  rw [abs_le] at c5 c239
  generalize hq : (2 : Real) ^ 33408 = Q at *
  push_cast at c5 c239
  have hr : (machin : Real) = 2 ^ 64 * (initNumber : Real) + ((machin % 2 ^ 64 : Nat) : Real) := by
    rw [← hd]; exact_mod_cast (Nat.div_add_mod machin (2 ^ 64)).symm
  have hlo' : (2 : Real) ^ 20 ≤ ((machin % 2 ^ 64 : Nat) : Real) := by exact_mod_cast hlo
  have hhi' : ((machin % 2 ^ 64 : Nat) : Real) + 2 ^ 20 ≤ 2 ^ 64 := by exact_mod_cast hhi
  have hQ : Q = 2 ^ 64 * 2 ^ 33344 := by rw [← hq, ← pow_add]
  generalize (2 : Real) ^ 33344 = W at *
  have e : 2 ^ 64 * ((Real.pi - 3) * W) = Q * Real.pi - 3 * Q := by rw [hQ]; ring
  have e2 : Q * Real.pi = 16 * (Q * Real.arctan 5⁻¹) - 4 * (Q * Real.arctan 239⁻¹) := by
    have : Real.pi = 16 * Real.arctan 5⁻¹ - 4 * Real.arctan 239⁻¹ := by linarith
    rw [this]; ring
  clear hd hlo hhi h5 h239 hle hq hQ
  clear hpi
  constructor <;> linarith

end Sys2Proof.Machine
end

