-- ==== Sys2Proof/Laws/Step.lean ====
section
/-! SUPPORT. The cases of one step, and a run unfolded by one command. -/

namespace Sys2Proof.Machine

theorem step_idle (s : State) (h : s.pending = []) : step s = .next s := by
  simp [step, takeCommand, h, execIdle]

theorem step_instr (s : State) (c : Command) (rest : List Command) (i : Instr) (h : s.pending = c :: rest)
    (hd : decode c = .instr i) : step s = exec i (s.withPending rest) := by
  simp [step, takeCommand, h, hd]

theorem step_reserved (s : State) (c : Command) (rest : List Command) (why : Reserved) (h : s.pending = c :: rest)
    (hd : decode c = .reserved why) : step s = .next (reject .errCmd (s.withPending rest)) := by
  simp [step, takeCommand, h, hd, execReserved]

/-- Everything a command can decode to (R59). -/
theorem decode_cases (c : Command) :
    (∃ why, decode c = .reserved why) ∨ (∃ m pd, decode c = .instr (.init m pd c.din)) ∨
      decode c = .instr (.setiv c.din) ∨ decode c = .instr (.encode c.din) ∨ decode c = .instr (.decode c.din) := by
  unfold decode decodeZ
  split
  · exact .inr (.inl ⟨_, _, rfl⟩)
  · split
    · split
      · exact .inr (.inr (.inl rfl))
      · exact .inl ⟨_, rfl⟩
    · split
      · split
        · exact .inr (.inr (.inr (.inl rfl)))
        · exact .inl ⟨_, rfl⟩
      · split
        · split
          · exact .inr (.inr (.inr (.inr rfl)))
          · exact .inl ⟨_, rfl⟩
        · exact .inl ⟨_, rfl⟩

theorem serve_nil (s : State) : serve s [] = [] := rfl

theorem serve_cons (s t : State) (c : Command) (cs : List Command) (r : Response) (h : issue c s = .next t)
    (hr : t.response = some r) : serve s (c :: cs) = r :: serve t cs := by
  simp [serve, h, hr]

end Sys2Proof.Machine
end

