-- ==== Sys2Proof/Tests/Slice0.lean ====
section
/-! SUPPORT. Small tests with results from the spec's own tables and vectors (spec/30_encoding.md, spec/42_init_constants.md,
spec/95_test_vectors.md), and for every statement with hypotheses a witness that meets them. -/

namespace Sys2Proof.Machine.Tests

/-! ## Well-formedness: one ill-formed term for each check -/

theorem test_wf_refuses_empty_key : (Instr.ksched []).wf = false := by decide
/-- An UNPAD has its effect on any sequence (notes/assumptions/13.md). -/
theorem test_wf_accepts_partial_unpad :
    ([Instr.unpadPkcs5 [1], .unpadOneAndZeros [1], .unpadLastByte [1], .unpadNull [1], .unpadSpaces [1]].map Instr.wf) =
      [true, true, true, true, true] := by decide
theorem test_wf_refuses_partial_mode :
    ([Instr.ecbEnc [1], .ecbDec [1, 2], .cbcEnc [3], .cbcDec [4]].map Instr.wf) = [false, false, false, false] := by decide
theorem test_wf_accepts : (Instr.ksched [0]).wf = true ∧ (Instr.unpadNull []).wf = true ∧ (Instr.init 3 7 []).wf = true := by
  decide

/-! ## Encoding (spec/30_encoding.md, section 2.8 of spec/95_test_vectors.md) -/

theorem test_decode_init : decodeTableWord 8 0b00101100 = some (.init 1 4 []) := by decide
theorem test_decode_setiv : decodeTableWord 8 0b01000000 = some (.setiv []) := by decide
theorem test_decode_encode : decodeTableWord 8 0b01100000 = some (.encode []) := by decide
theorem test_decode_decode : decodeTableWord 8 0b10000000 = some (.decode []) := by decide
theorem test_decode_payload : decodeTableWord 24 0x6B4B20 = some (.init 0 0 [0x4B, 0x6B]) := by decide
theorem test_decode_no_bits : decodeTableWord 0 0 = none := by decide
theorem test_decode_reserved_edges :
    ([0x00, 0x1F, 0x41, 0x5F, 0x61, 0x7F, 0x81, 0x9F, 0xA0, 0xFF].map (decodeTableWord 8)) =
      [none, none, none, none, none, none, none, none, none, none] := by decide
theorem test_decode_init_edges :
    decodeTableWord 8 0x20 = some (.init 0 0 []) ∧ decodeTableWord 8 0x3F = some (.init 3 7 []) := by decide
theorem test_encode_init : encode (.init 1 4 [7]) = some ⟨0x2C, [7]⟩ := by decide
theorem test_encode_internal : encode (.f 0) = none := by decide

/-! ## State and constants (R12, R14, R15, R60; checks of section 1 of spec/42_init_constants.md) -/

theorem test_arch_state_bits : Config.archStateBits = 33414 := by decide
theorem test_selector_numbers :
    [Mode.ecb, .cbc].map Mode.code = [0, 1] ∧
      [Padding.pkcs5, .oneAndZeros, .lastByte, .null, .spaces].map Padding.code = [0, 1, 2, 3, 4] ∧
      [Status.ok, .errCmd, .errNokey, .errKey, .errMode, .errPad, .errIv, .errLen].map Status.code =
        [0, 1, 2, 3, 4, 5, 6, 7] := by decide
theorem test_p_init_checks :
    pInit.toList.foldl (· ^^^ ·) 0 = 0xB73AD7EA ∧ pInit.toList.foldl (· + ·) 0 = 0x8E4D14CC := by decide +kernel
theorem test_s0_init_checks :
    sInit0.toList.foldl (· ^^^ ·) 0 = 0x4EB4DB7F ∧ sInit0.toList.foldl (· + ·) 0 = 0x4B745115 := by decide +kernel
theorem test_s1_init_checks :
    sInit1.toList.foldl (· ^^^ ·) 0 = 0xC727E122 ∧ sInit1.toList.foldl (· + ·) 0 = 0x72FF37B2 := by decide +kernel
theorem test_s2_init_checks :
    sInit2.toList.foldl (· ^^^ ·) 0 = 0x462A5D01 ∧ sInit2.toList.foldl (· + ·) 0 = 0x2AC02B91 := by decide +kernel
theorem test_s3_init_checks :
    sInit3.toList.foldl (· ^^^ ·) 0 = 0x1779E2BC ∧ sInit3.toList.foldl (· + ·) 0 = 0xF43E3A88 := by decide +kernel

/-! ## Arithmetic (section 2.1) -/

theorem test_add32 : add32 0xFFFFFFFF 1 = 0 ∧ add32 0xD1310BA6 0x4B7A70E9 = 0x1CAB7C8F := by decide
theorem test_xor32 : xor32 0xFFFFFFFF 0x80000000 = 0x7FFFFFFF ∧ xor32 0x243F6A88 0x61626361 = 0x455D09E9 := by decide
theorem test_tou32 : (tou32 0xFFFFFFFF).toNat = 4294967295 := by decide
theorem test_pack32 : pack32 0x12 0x34 0x56 0x78 = 0x12345678 ∧ pack32 0xFF 0 0 0 = 0xFF000000 := by decide
theorem test_unpack32 : unpack32 0x89ABCDEF = [0x89, 0xAB, 0xCD, 0xEF] := by decide

/-! ## Feistel engine and key schedule on the constants (sections 2.2, 2.3) -/

theorem test_f : roundF schedConstants 0x243F6A88 = 0xDB2F9C4E ∧ roundF schedConstants 0x01020304 = 0x3CEDFF8C := by
  decide +kernel
theorem test_encblk : encblk schedConstants ⟨0, 0⟩ = ⟨0x706D9FCC, 0x1792D23A⟩ := by decide +kernel
theorem test_decblk : decblk schedConstants ⟨0x706D9FCC, 0x1792D23A⟩ = ⟨0, 0⟩ := by decide +kernel
theorem test_key_words : keyWord [0x61, 0x62, 0x63] 0 = 0x61626361 ∧ keyWord [0x61, 0x62, 0x63] 17 = 0x63616263 := by
  decide
theorem test_mix_key :
    (schedMixKey [0x61, 0x62, 0x63] schedConstants).readP 0 = 0x455D09E9 ∧
      (schedMixKey [0x61, 0x62, 0x63] schedConstants).readP 17 = 0xEA189978 := by decide +kernel
/-- The first pass of phase 2 for an all-zero key: P[0], P[1] become the first output (section 2.2). -/
theorem test_first_schedule_pass :
    (schedStepP ⟨schedConstants, ⟨0, 0⟩⟩ 0).tables.readP 0 = 0x706D9FCC ∧
      (schedStepP ⟨schedConstants, ⟨0, 0⟩⟩ 0).tables.readP 1 = 0x1792D23A := by decide +kernel
theorem test_first_box_pass :
    (schedStepS 2 ⟨schedConstants, ⟨0, 0⟩⟩ 127).tables.readS 2 254 = 0x706D9FCC ∧
      (schedStepS 2 ⟨schedConstants, ⟨0, 0⟩⟩ 127).tables.readS 2 255 = 0x1792D23A := by decide +kernel

/-! ## Padding (sections 2.5, 2.6) -/

def a5 : List Byte := [0xA0, 0xA1, 0xA2, 0xA3, 0xA4]

theorem test_pad_pkcs5 : padPkcs5 a5 = a5 ++ [3, 3, 3] ∧ padPkcs5 (a5 ++ [1, 2, 3]) = a5 ++ [1, 2, 3] := by decide
theorem test_pad_one_and_zeros : padOneAndZeros a5 = a5 ++ [0x80, 0, 0] ∧ padOneAndZeros (a5 ++ [1, 2]) = a5 ++ [1, 2, 0x80] := by
  decide
theorem test_pad_last_byte : padLastByte a5 = a5 ++ [0, 0, 3] ∧ padLastByte (a5 ++ [1, 2]) = a5 ++ [1, 2, 1] := by decide
theorem test_pad_null : padNull a5 = a5 ++ [0, 0, 0] ∧ padNull [] = [] := by decide
theorem test_pad_spaces : padSpaces [0x20] = [0x20, 0x20, 0x20, 0x20, 0x20, 0x20, 0x20, 0x20] := by decide
theorem test_unpad_pkcs5 :
    unpadPkcs5 (a5 ++ [0xA5, 2, 3]) = a5 ∧ unpadPkcs5 [8, 8, 8, 8, 8, 8, 8, 8] = [8, 8, 8, 8, 8, 8, 8, 8] := by decide
theorem test_unpad_last_byte :
    unpadLastByte [0xA0, 0x11, 0x22, 0x33, 0x44, 0x55, 0x66, 7] = [0xA0] ∧
      unpadLastByte (a5 ++ [1, 2, 0]) = a5 ++ [1, 2, 0] := by decide
theorem test_unpad_one_and_zeros :
    unpadOneAndZeros [0xA0, 0xA1, 0xA2, 0xA3, 0x80, 0, 0x80, 0] = [0xA0, 0xA1, 0xA2, 0xA3, 0x80, 0] ∧
      unpadOneAndZeros [0x80, 0, 0, 0, 0, 0, 0, 0] = [0x80, 0, 0, 0, 0, 0, 0, 0] := by decide
theorem test_unpad_null :
    unpadNull [0, 0, 0, 0, 0, 0, 0, 0] = [0] ∧ unpadNull (a5 ++ [1, 0, 0x20]) = a5 ++ [1, 0, 0x20] := by decide
theorem test_unpad_spaces :
    unpadSpaces [0x41, 0x42, 0x43, 0x20, 0x20, 0x20, 0x20, 0x20] = [0x41, 0x42, 0x43] ∧ unpadSpaces [] = [] := by decide

/-- The bound of a free cut: of three bytes at most three, of nine at most seven, whatever the free value is. -/
theorem test_bounded_cut : boundedCut 3 [1, 2, 3] = 3 ∧ boundedCut 4 [1, 2, 3] = 0 ∧
    boundedCut 7 (List.replicate 9 0#8) = 7 ∧ boundedCut 8 (List.replicate 9 0#8) = 0 := by decide

/-! ## Modes and commands on the constants as tables: ENCBLK(0, 0) = (706D9FCC, 1792D23A) (section 2.3) -/

/-- A keyed core with the constants as its tables and IV 01 02 .. 08. -/
def keyedState (m : Mode) (d : Padding) (ivOk : Bool) : State :=
  { State.reset with
    keyed := true, mode := m, pad := d, ivValid := ivOk, iv := #v[1, 2, 3, 4, 5, 6, 7, 8], p := pInit, s := sInit }

def zeros8 : List Byte := [0, 0, 0, 0, 0, 0, 0, 0]
def iv8 : List Byte := [1, 2, 3, 4, 5, 6, 7, 8]
def ct8 : List Byte := [0x70, 0x6D, 0x9F, 0xCC, 0x17, 0x92, 0xD2, 0x3A]

theorem test_ecb : (ecbEnc (zeros8 ++ zeros8) (keyedState .ecb .null false)).out = ct8 ++ ct8 ∧
    (ecbDec (ct8 ++ ct8) (keyedState .ecb .null false)).out = zeros8 ++ zeros8 := by decide +kernel
/-- With the IV as block 0 and the first ciphertext block as block 1, both blocks are encrypted as zero. -/
theorem test_cbc_enc : (cbcEnc (iv8 ++ ct8) (keyedState .cbc .null true)).out = ct8 ++ ct8 := by decide +kernel
theorem test_cbc_dec : (cbcDec (ct8 ++ ct8) (keyedState .cbc .null true)).out = iv8 ++ ct8 := by decide +kernel

/-- The response a command gets. -/
def answer (r : Result) : Option Response :=
  match r with
  | .next t => t.response
  | .fault _ => none
  | .refused _ => none

theorem test_encode : answer (exec (.encode [0, 0]) (keyedState .ecb .null false)) = some ⟨.ok, ct8⟩ := by decide +kernel
theorem test_decode : answer (exec (.decode ct8) (keyedState .ecb .null false)) = some ⟨.ok, [0]⟩ := by decide +kernel
theorem test_encode_needs_iv : answer (exec (.encode []) (keyedState .cbc .pkcs5 false)) = some ⟨.errIv, []⟩ := by
  decide +kernel
theorem test_decode_length_before_iv :
    answer (exec (.decode [0, 0, 0, 0, 0, 0, 0]) (keyedState .cbc .pkcs5 false)) = some ⟨.errLen, []⟩ := by decide +kernel
theorem test_init_priority :
    answer (exec (.init 3 7 []) State.reset) = some ⟨.errKey, []⟩ ∧
      answer (exec (.init 3 7 [0xAA]) State.reset) = some ⟨.errMode, []⟩ ∧
      answer (exec (.init 1 7 [0xAA]) State.reset) = some ⟨.errPad, []⟩ ∧
      answer (exec (.init 1 4 [0xAA]) State.reset) = some ⟨.ok, []⟩ := by decide +kernel
theorem test_setiv : answer (exec (.setiv iv8) State.reset) = some ⟨.errNokey, []⟩ ∧
    answer (exec (.setiv (0 :: iv8)) (keyedState .ecb .null false)) = some ⟨.errIv, []⟩ ∧
    answer (exec (.setiv iv8) (keyedState .ecb .null false)) = some ⟨.ok, []⟩ := by decide +kernel
theorem test_step_reserved :
    answer (step (State.reset.withFetchWord 8 0x61)) = some ⟨.errCmd, []⟩ := by decide +kernel
theorem test_step_first_command :
    answer (step (State.reset.withFetchWord 16 0x0060)) = some ⟨.errNokey, []⟩ := by decide +kernel
theorem test_line_assembles : (Line.init 1 4 [0x4F]).assemble = ⟨0x2C, [0x4F]⟩ := by decide
theorem test_line_text : (Line.initMode 1 []).text = ['I', 'N', 'I', 'T', ' ', 'C', 'B', 'C', ',', ' ', '-'] := by decide

/-! ## Witnesses: for every statement with hypotheses, operands and a state that meet all of them together -/

/-- A core keyed by INIT with `key` (R136), in the mode and scheme given. -/
def keyedBy (key : List Byte) (m : Mode) (d : Padding) : State := (runKsched key State.reset).withConfig m d

/-- The chain of the key schedule by index, for `key`. -/
def chainOf (key : List Byte) : Nat → Tables × Block
  | 0 => (⟨Vector.ofFn fun i : Fin 18 => pInit[i.val] ^^^ keyWord key i.val, sInit⟩, ⟨0, 0⟩)
  | n + 1 =>
    (storeOutput n (encblk (chainOf key n).1 (chainOf key n).2) (chainOf key n).1, encblk (chainOf key n).1 (chainOf key n).2)

theorem witness_command_bytes :
    (Instr.init 3 7 []).isCommand = true ∧ (Instr.decode [1]).isCommand = true ∧
      decode ⟨0x3F, []⟩ = .instr (.init 3 7 []) ∧ decode ⟨0x20, [1]⟩ = .instr (.init 0 0 [1]) ∧
      decode ⟨0x40, iv8⟩ = .instr (.setiv iv8) ∧ decode ⟨0x60, []⟩ = .instr (.encode []) ∧
      decode ⟨0x80, []⟩ = .instr (.decode []) := by decide
theorem witness_reserved_bytes :
    decode ⟨0x00, [1]⟩ = .reserved (.operation 0) ∧ decode ⟨0x1F, []⟩ = .reserved (.operation 0) ∧
      decode ⟨0x41, []⟩ = .reserved (.zeroFieldSet 2 1) ∧ decode ⟨0x7F, []⟩ = .reserved (.zeroFieldSet 3 31) ∧
      decode ⟨0x9F, []⟩ = .reserved (.zeroFieldSet 4 31) ∧ decode ⟨0xA0, []⟩ = .reserved (.operation 5) ∧
      decode ⟨0xFF, []⟩ = .reserved (.operation 7) := by decide
theorem witness_idle : State.reset.pending = [] := rfl
theorem witness_pending : (State.reset.withPending [⟨0x40, []⟩, ⟨0x00, []⟩]).pending = ⟨0x40, []⟩ :: [⟨0x00, []⟩] := rfl
/-- Section 1 of spec/43_feistel.md: the bytes of 0x243F6A88 are 0x24, 0x3F, 0x6A, 0x88. -/
theorem witness_f_bytes : (0x243F6A88#32).toNat =
    (0x24 : Fin 256).val * 2 ^ 24 + (0x3F : Fin 256).val * 2 ^ 16 + (0x6A : Fin 256).val * 2 ^ 8 + (0x88 : Fin 256).val := by
  decide
theorem witness_constant : initWords[0]? = some 0x243F6A88 ∧ initWords[1041]? = some 0x3AC372E6 := by decide +kernel
theorem witness_schedule_chain :
    ([0] : List Byte) ≠ [] ∧ ScheduleChain [0] (fun n => (chainOf [0] n).1) (fun n => (chainOf [0] n).2) where
  left := by decide
  right :=
    { first_p := fun i => by simp [chainOf, Tables.readP, keyWord, keyByte]
      first_s := rfl
      first_block := rfl
      encrypt := fun _ _ => rfl
      store := fun _ _ => rfl }
/-- R85: the key 00 and the key of eight zeros have one stream; 72 bytes are enough. -/
theorem witness_key_stream :
    ([0] : List Byte) ≠ [] ∧ zeros8 ≠ [] ∧
      (∀ j, j < 72 → ([0] : List Byte).getD (j % 1) 0 = zeros8.getD (j % zeros8.length) 0) ∧ 0 < 1 ∧
      72 ≤ (List.replicate 72 0x5A#8).length ∧ 72 ≤ (List.replicate 73 0x5A#8).length := by decide
theorem witness_pad_counts :
    a5.length % 8 = 5 ∧ (1 ≤ 3 ∧ 3 ≤ 7 ∧ (a5.length + 3) % 8 = 0) ∧ (1 ≤ 7 ∧ 7 ≤ 7 ∧ ([0xA0#8].length + 7) % 8 = 0) ∧
      ((a5 ++ [1, 2]).length + 1) % 8 = 0 ∧ ([] : List Byte).length % 8 = 0 ∧ zeros8.length % 8 = 0 := by decide
theorem witness_unpad_last_byte :
    ((a5 ++ [1, 2]).length + 1) % 8 = 0 ∧ (0#8).toNat < 8 ∧ (7#8).toNat < 8 ∧ 8 ≤ (8#8).toNat ∧ 8 ≤ (0xFF#8).toNat := by
  decide
theorem witness_unpad_marker : (0 < 7 ∧ ((a5 ++ [1, 2]).length + 1 + 0) % 8 = 0) ∧ 6 < 7 ∧ ([0xA0#8].length + 1 + 6) % 8 = 0 := by
  decide
/-- Corner cases of R114: a last byte 0x01, and the marker at distance 8. -/
theorem witness_no_marker :
    ¬ EndsInMarker (List.replicate 8 0x01#8) ∧ ¬ EndsInMarker (0x80#8 :: List.replicate 7 0x00#8) := by
  constructor
  · rintro ⟨ys, k, -, h⟩
    have : 0x80#8 ∈ List.replicate 8 0x01#8 := by rw [h]; simp
    revert this; decide
  · rintro ⟨ys, k, hk, h⟩
    have hl := congrArg List.length h
    simp at hl
    have hy : ys.length = 7 - k := by omega
    have hg : (ys ++ 0x80#8 :: List.replicate k 0x00#8)[7 - k]? = some 0x80#8 := by rw [← hy]; simp
    rw [← h] at hg
    revert hg
    interval_cases k <;> decide
theorem witness_fill_runs :
    (0 ≤ 7 ∧ (zeros8.length + 0) % 8 = 0 ∧ iv8.getLast? ≠ some 0x00#8 ∧ iv8.getLast? ≠ some 0x20#8) ∧
      (3 ≤ 7 ∧ (a5.length + 3) % 8 = 0 ∧ a5.getLast? ≠ some 0x00#8 ∧ a5.getLast? ≠ some 0x20#8) ∧
      (7 ≤ 7 ∧ ([0x00#8].length + 7) % 8 = 0) := by decide
theorem witness_round_trips :
    RoundTrips .pkcs5 a5 ∧ RoundTrips .pkcs5 (List.replicate 8 0x08#8) ∧ ¬ RoundTrips .pkcs5 (List.replicate 8 0x07#8) ∧
      RoundTrips .lastByte zeros8 ∧ ¬ RoundTrips .lastByte iv8.reverse ∧ RoundTrips .oneAndZeros (List.replicate 8 0x01#8) ∧
      ¬ RoundTrips .oneAndZeros (a5 ++ [0x80#8, 0x00#8, 0x00#8]) ∧ RoundTrips .null a5 ∧ RoundTrips .null [0x00#8] ∧
      ¬ RoundTrips .null zeros8 ∧ RoundTrips .spaces zeros8 ∧ ¬ RoundTrips .spaces [0x41#8, 0x20#8] := by
  refine ⟨.inl (by decide), .inr (by simp), by simp [RoundTrips], .inr (by simp [zeros8]), by simp [RoundTrips, iv8],
    .inr witness_no_marker.1, ?_, .inl (by decide), .inr (by decide), by simp [RoundTrips, zeros8], .inl (by decide),
    by simp [RoundTrips]⟩
  rintro (h | h)
  · revert h; decide
  · exact h ⟨a5, 2, by decide, by decide⟩
/-- Two blocks: the first, and one with a block before it; and a ciphertext with one block replaced. -/
theorem witness_blocks :
    (ct8 ++ ct8).length % 8 = 0 ∧ (zeros8 ++ ct8).length = (ct8 ++ ct8).length ∧ HasBlock (ct8 ++ ct8) 0 ∧
      HasBlock (ct8 ++ ct8) (0 + 1) ∧ HasBlock (zeros8 ++ ct8) 1 ∧ blockAt (ct8 ++ ct8) 0 ≠ blockAt (zeros8 ++ ct8) 0 ∧
      (∀ j, HasBlock (ct8 ++ ct8) j → j ≠ 0 → blockAt (ct8 ++ ct8) j = blockAt (zeros8 ++ ct8) j) := by
  refine ⟨by decide, by decide, by unfold HasBlock; decide, by unfold HasBlock; decide, by unfold HasBlock; decide, by decide,
    fun j hj h0 => ?_⟩
  have hl : (ct8 ++ ct8).length = 16 := rfl
  unfold HasBlock at hj
  have : j = 1 := by omega
  subst this
  decide
/-- Blocks that agree up to block k, and sequences that agree in one block alone. -/
theorem witness_equal_blocks :
    HasBlock (ct8 ++ ct8) 1 ∧ HasBlock (ct8 ++ ct8 ++ iv8) 1 ∧
      (∀ j, j < 1 → blockAt (ct8 ++ ct8) j = blockAt (ct8 ++ ct8 ++ iv8) j) ∧
      blockAt (ct8 ++ ct8) 1 = blockAt (ct8 ++ ct8 ++ iv8) 1 ∧ blockAt (ct8 ++ ct8) 0 = blockAt (ct8 ++ iv8) 0 ∧
      (1 : Nat) = 0 + 1 ∧ (fun x => Instr.cbcDec x) ∈ [Instr.ecbEnc, .ecbDec, .cbcEnc, .cbcDec] := by
  refine ⟨by unfold HasBlock; decide, by unfold HasBlock; decide, fun j hj => ?_, by decide, by decide, rfl, by simp⟩
  have : j = 0 := by omega
  subst this
  decide
theorem witness_init_operands :
    ([0xAA] : List Byte) ≠ [] ∧ 1 < (2#2).toNat ∧ 1 < (3#2).toNat ∧ (1#2).toNat ≤ 1 ∧ 4 < (5#3).toNat ∧ 4 < (7#3).toNat ∧
      ((1 : BitVec 2), Mode.cbc) ∈ [((0 : BitVec 2), Mode.ecb), (1, Mode.cbc)] ∧
      ((4 : BitVec 3), Padding.spaces) ∈ [((0 : BitVec 3), Padding.pkcs5), (1, .oneAndZeros), (2, .lastByte), (3, .null),
        (4, .spaces)] := by decide
theorem witness_command_states :
    State.reset.keyed = false ∧ (keyedState .cbc .pkcs5 false).keyed = true ∧ (keyedState .cbc .pkcs5 false).mode = .cbc ∧
      (keyedState .cbc .pkcs5 false).ivValid = false ∧ (keyedState .cbc .pkcs5 true).ivValid = true ∧
      (keyedState .ecb .null false).mode = .ecb ∧ (iv8.take 7).length ≠ 8 ∧ iv8.length = 8 ∧ (0 :: iv8).length ≠ 8 ∧
      ([1, 2, 3, 4, 5, 6, 7] : List Byte).length % 8 ≠ 0 ∧ ct8.length % 8 = 0 := by decide
/-- A rejected command: its status is not OK. -/
theorem witness_rejected : issue ⟨0x40, iv8⟩ State.reset = .next (reject .errNokey State.reset) := by rfl
/-- An accepted SETIV, and an accepted INIT. -/
theorem witness_accepted :
    (∃ t, issue ⟨0x40, iv8⟩ (keyedState .ecb .null false) = .next t ∧ Accepted t) ∧
      (∃ m pd, decode ⟨0x2C, [0xAA]⟩ = .instr (.init m pd [0xAA])) ∧
      ∃ t, issue ⟨0x2C, [0xAA]⟩ State.reset = .next t ∧ Accepted t :=
  ⟨⟨_, rfl, _, rfl⟩, ⟨1, 4, by decide⟩, ⟨_, rfl, _, rfl⟩⟩
theorem witness_domain : (Instr.ksched [0]).wf = true ∧ (Instr.ksched []).wf = false ∧ (Instr.ecbEnc ct8).wf = true ∧
    (Instr.ecbDec [0]).wf = false ∧ (Instr.unpadNull [0]).wf = true := by decide
theorem keyedBy_inv (key : List Byte) (m : Mode) (d : Padding) (h : key ≠ []) : Inv (keyedBy key m d) :=
  ⟨fun _ => ⟨key, h, by simp [keyedBy]⟩, fun hv => by simp [keyedBy] at hv⟩
/-- A keyed state that meets the invariant and takes a step. -/
theorem witness_invariant_step :
    Inv ((keyedBy [0xAA] .cbc .pkcs5).withPending [⟨0x40, iv8⟩]) ∧
      (∃ t, step ((keyedBy [0xAA] .cbc .pkcs5).withPending [⟨0x40, iv8⟩]) = .next t ∧ t.ivValid = true) ∧
      ∃ t, exec (.f 0) (keyedBy [0xAA] .cbc .pkcs5) = .next t := by
  refine ⟨?_, ⟨_, rfl, rfl⟩, ⟨_, rfl⟩⟩
  have h := keyedBy_inv [0xAA] .cbc .pkcs5 (by decide)
  exact ⟨fun _ => h.tables_of_key (by simp [keyedBy]), fun hv => by simp [keyedBy] at hv⟩
/-- Two unkeyed states that differ in what reset leaves unspecified. -/
theorem witness_unkeyed_pair :
    State.reset.keyed = false ∧ (State.reset.withTables schedConstants).keyed = false ∧
      State.reset.p ≠ (State.reset.withTables schedConstants).p := by decide +kernel
/-- Two states with the same architectural state and other working words. -/
theorem witness_same_arch :
    (keyedBy [0xAA] .cbc .pkcs5).arch = ((keyedBy [0xAA] .cbc .pkcs5).withPrev ⟨1, 2⟩).arch ∧
      State.reset.prev ≠ (State.reset.withPrev ⟨1, 2⟩).prev := ⟨by simp, by decide⟩
/-- A keyed core and the software object it stands for. -/
theorem witness_cipher : (keyedBy [0xAA] .cbc .pkcs5).keyed = true ∧
    (keyedBy [0xAA] .cbc .pkcs5).tables = (Cipher.mk [0xAA] .cbc .pkcs5 none).tables ∧
    (keyedBy [0xAA] .cbc .pkcs5).mode = .cbc ∧ (keyedBy [0xAA] .cbc .pkcs5).pad = .pkcs5 ∧
    (none : Option (Vector Byte 8)) =
      (if (keyedBy [0xAA] .cbc .pkcs5).ivValid then some (keyedBy [0xAA] .cbc .pkcs5).iv else none) := by
  simp [keyedBy, Cipher.tables]

end Sys2Proof.Machine.Tests
end

section
/-! PROOF. The claims of spec/00_scope.md: a step is the execution of the command the host issued (O7), and every command
is answered (O45). A host command always completes, takes nothing from the host and leaves one response, since each of its
outcomes is a rejection or an acceptance; a reserved byte is a rejection; with no command issued the core is idle. -/

namespace Sys2Proof.Machine

theorem exec_init (m : BitVec 2) (pd : BitVec 3) (key : List Byte) (s : State) :
    exec (.init m pd key) s = execInit m pd key s := rfl

theorem exec_setiv (iv : List Byte) (s : State) : exec (.setiv iv) s = execSetiv iv s := rfl

theorem exec_encode (x : List Byte) (s : State) : exec (.encode x) s = execEncode x s := rfl

theorem exec_decode (z : List Byte) (s : State) : exec (.decode z) s = execDecode z s := rfl

/-- R62: the decoder gives host commands only. -/
theorem isCommand_of_decode (c : Command) (i : Instr) (h : decode c = .instr i) : i.isCommand = true := by
  obtain ⟨why, hd⟩ | ⟨m, pd, hd⟩ | hd | hd | hd := decode_cases c <;> rw [hd] at h <;> cases h <;> rfl

/-- R135, R158: whatever the state, a host command completes with a response, and the commands still to come are kept. -/
theorem exec_responds_of_isCommand (i : Instr) (s : State) (hi : i.isCommand = true) :
    ∃ t r, exec i s = .next t ∧ t.pending = s.pending ∧ t.response = some r := by
  cases i with
  | init m pd key =>
    rw [exec_init]
    obtain ⟨e, -, he⟩ | ⟨mode, pad, -, -, -, he⟩ := execInit_cases m pd key s
    · exact ⟨_, _, he, reject_pending e s, reject_response e s⟩
    · exact ⟨_, _, he, by simp, accept_response _ _⟩
  | setiv iv =>
    rw [exec_setiv]
    obtain ⟨e, -, he⟩ | ⟨v, -, -, he⟩ := execSetiv_cases iv s
    · exact ⟨_, _, he, reject_pending e s, reject_response e s⟩
    · exact ⟨_, _, he, by simp, accept_response _ _⟩
  | encode x =>
    rw [exec_encode]
    obtain ⟨e, -, he⟩ | ⟨-, he⟩ := execEncode_cases x s
    · exact ⟨_, _, he, reject_pending e s, reject_response e s⟩
    · exact ⟨_, _, he, by simp, accept_response _ _⟩
  | decode z =>
    rw [exec_decode]
    obtain ⟨e, -, he⟩ | ⟨-, he⟩ := execDecode_cases z s
    · exact ⟨_, _, he, reject_pending e s, reject_response e s⟩
    · exact ⟨_, _, he, by simp, accept_response _ _⟩
  | _ => cases hi

/-- R61, R158: a step with a command pending takes it, whatever its byte is, and leaves a response. -/
theorem step_responds_of_pending (s : State) (c : Command) (rest : List Command) (h : s.pending = c :: rest) :
    ∃ t r, step s = .next t ∧ t.pending = rest ∧ t.response = some r := by
  cases hd : decode c with
  | reserved why =>
    exact ⟨_, _, step_reserved s c rest why h hd, reject_pending _ _, reject_response _ _⟩
  | instr i =>
    rw [step_instr s c rest i h hd]
    exact exec_responds_of_isCommand i (s.withPending rest) (isCommand_of_decode c i hd)

theorem step_answers (s : State) : Answers s := by
  cases h : s.pending with
  | nil => exact ⟨s, step_idle s h⟩
  | cons c rest =>
    obtain ⟨t, -, ht, -⟩ := step_responds_of_pending s c rest h
    exact ⟨t, ht⟩

/-- Settles O45: idle with nothing pending, a rejection on a reserved byte, and otherwise a host command, which always
responds. -/
theorem everyStepAnswers : Obligations.EveryStepAnswers :=
  fun s => ⟨step_answers s, step_responds_of_pending s⟩

/-- Settles O7, from the cases of one step. -/
theorem stepRunsTheDecodedCommand : Obligations.StepRunsTheDecodedCommand :=
  ⟨fun c rest i s hd => step_instr { s with pending := c :: rest } c rest i rfl hd, step_idle⟩

end Sys2Proof.Machine
end

section
/-! PROOF. The write rules and the invariant of spec/10_state.md (O1, O43, O47, O48). Everything a command can leave is said
once (`CommandEffect`): a rejection, the effect of INIT, the effect of SETIV, or an answer that leaves the architectural state
as it was. An internal operation other than KSCHED leaves that state as it was too. -/

namespace Sys2Proof.Machine

/-! ## What a command can leave -/

theorem checkInit_ne_ok (m : BitVec 2) (pd : BitVec 3) (key : List Byte) : checkInit m pd key ≠ .error .ok := by
  unfold checkInit
  split
  · simp
  · cases modeOf m <;> cases paddingOf pd <;> simp

theorem checkSetiv_ne_ok (iv : List Byte) (s : State) : checkSetiv iv s ≠ .error .ok := by
  unfold checkSetiv
  split
  · simp
  · cases ivOf iv <;> simp

theorem checkEncode_ne_ok (s : State) : checkEncode s ≠ some .ok := by
  unfold checkEncode
  split
  · simp
  · split <;> simp

theorem checkDecode_ne_ok (z : List Byte) (s : State) : checkDecode z s ≠ some .ok := by
  unfold checkDecode
  split
  · simp
  · split
    · simp
    · split <;> simp

theorem keyed_of_checkEncode {s : State} (h : checkEncode s = none) : s.keyed = true := by
  cases hk : s.keyed with
  | false => simp [checkEncode, hk] at h
  | true => rfl

theorem keyed_of_checkDecode {z : List Byte} {s : State} (h : checkDecode z s = none) : s.keyed = true := by
  cases hk : s.keyed with
  | false => simp [checkDecode, hk] at h
  | true => rfl

/-- The states that a host command can leave when it is executed in state `s` (R22, R135, R156). -/
inductive CommandEffect (s : State) : Instr → State → Prop
  /-- A failed check: the response alone changes. -/
  | rejected {i : Instr} (e : Status) (he : e ≠ .ok) : CommandEffect s i (reject e s)
  /-- An accepted INIT. -/
  | init (m : BitVec 2) (pd : BitVec 3) (key : List Byte) (mode : Mode) (pad : Padding) (hkey : key ≠ []) :
      CommandEffect s (.init m pd key) (accept [] ((runKsched key s).withConfig mode pad))
  /-- An accepted SETIV. -/
  | setiv (iv : List Byte) (v : Vector Byte 8) (hk : s.keyed = true) :
      CommandEffect s (.setiv iv) (accept [] (s.withIv v))
  /-- An accepted ENCODE or DECODE, which reads the architectural state and writes none of it. -/
  | read {i : Instr} (dout : List Byte) (u : State) (hk : s.keyed = true) (hu : u.arch = s.arch) :
      CommandEffect s i (accept dout u)

/-- A host command completes, with one of its effects. -/
theorem exec_effect (i : Instr) (s : State) (hi : i.isCommand = true) :
    ∃ t, exec i s = .next t ∧ CommandEffect s i t := by
  cases i with
  | init m pd key =>
    rw [exec_init]
    obtain ⟨e, hc, he⟩ | ⟨mode, pad, hkey, -, -, he⟩ := execInit_cases m pd key s
    · exact ⟨_, he, .rejected e (by rintro rfl; exact checkInit_ne_ok _ _ _ hc)⟩
    · exact ⟨_, he, .init m pd key mode pad hkey⟩
  | setiv iv =>
    rw [exec_setiv]
    obtain ⟨e, hc, he⟩ | ⟨v, hk, -, he⟩ := execSetiv_cases iv s
    · exact ⟨_, he, .rejected e (by rintro rfl; exact checkSetiv_ne_ok _ _ hc)⟩
    · exact ⟨_, he, .setiv iv v hk⟩
  | encode x =>
    rw [exec_encode]
    obtain ⟨e, hc, he⟩ | ⟨hc, he⟩ := execEncode_cases x s
    · exact ⟨_, he, .rejected e (by rintro rfl; exact checkEncode_ne_ok _ hc)⟩
    · exact ⟨_, he, .read _ _ (keyed_of_checkEncode hc) (encBy_arch _ _ _)⟩
  | decode z =>
    rw [exec_decode]
    obtain ⟨e, hc, he⟩ | ⟨hc, he⟩ := execDecode_cases z s
    · exact ⟨_, he, .rejected e (by rintro rfl; exact checkDecode_ne_ok _ _ hc)⟩
    · exact ⟨_, he, .read _ _ (keyed_of_checkDecode hc) (decBy_arch _ _ _)⟩
  | _ => cases hi

/-- R56: the payload is the operand. -/
theorem payload_of_decode_init {c : Command} {m : BitVec 2} {pd : BitVec 3} {key : List Byte}
    (h : decode c = .instr (.init m pd key)) : key = c.din := by
  obtain ⟨why, hd⟩ | ⟨m, pd, hd⟩ | hd | hd | hd := decode_cases c <;> rw [hd] at h <;> cases h
  rfl

theorem payload_of_decode_setiv {c : Command} {iv : List Byte} (h : decode c = .instr (.setiv iv)) : iv = c.din := by
  obtain ⟨why, hd⟩ | ⟨m, pd, hd⟩ | hd | hd | hd := decode_cases c <;> rw [hd] at h <;> cases h
  rfl

/-- What a step with a command pending does: a rejection, or an effect of the operation the command decodes to. -/
theorem step_effect (s : State) (c : Command) (rest : List Command) (h : s.pending = c :: rest) :
    ∃ t, step s = .next t ∧ (t = reject .errCmd (s.withPending rest) ∨
      ∃ i, decode c = .instr i ∧ CommandEffect (s.withPending rest) i t) := by
  cases hd : decode c with
  | reserved why => exact ⟨_, step_reserved s c rest why h hd, .inl rfl⟩
  | instr i =>
    obtain ⟨t, ht, heff⟩ := exec_effect i (s.withPending rest) (isCommand_of_decode c i hd)
    exact ⟨t, (step_instr s c rest i h hd).trans ht, .inr ⟨i, rfl, heff⟩⟩

theorem accepted_accept (dout : List Byte) (s : State) : Accepted (accept dout s) := ⟨dout, rfl⟩

theorem not_accepted_reject {e : Status} (he : e ≠ .ok) (s : State) : ¬ Accepted (reject e s) := by
  rintro ⟨dout, h⟩
  simp at h
  exact he h.1

/-- Settles O1: on the unkeyed core every effect but a rejection and INIT's asks for a key. -/
theorem resetAcceptsOnlyInit : Obligations.ResetAcceptsOnlyInit := by
  refine ⟨rfl, rfl, fun c => ?_⟩
  obtain ⟨t, ht, hres⟩ := step_effect (State.reset.withPending [c]) c [] rfl
  refine ⟨t, ht, fun hok => ?_⟩
  obtain rfl | ⟨i, hd, heff⟩ := hres
  · exact absurd hok (not_accepted_reject (by decide) _)
  · cases heff with
    | rejected e he => exact absurd hok (not_accepted_reject he _)
    | init m pd key mode pad hkey => exact ⟨m, pd, payload_of_decode_init hd ▸ hd⟩
    | setiv iv v hk => cases hk
    | read dout u hk hu => cases hk

/-- Settles O43, by the four effects of a command. -/
theorem onlyInitAndSetivWrite : Obligations.OnlyInitAndSetivWrite := by
  intro c rest s
  obtain ⟨t, ht, hres⟩ := step_effect { s with pending := c :: rest } c rest rfl
  refine ⟨t, ht, ?_⟩
  obtain rfl | ⟨i, hd, heff⟩ := hres
  · exact .inl rfl
  · cases heff with
    | rejected e he => exact .inl rfl
    | init m pd key mode pad hkey =>
      exact .inr (.inl ⟨accepted_accept _ _, ⟨m, pd, payload_of_decode_init hd ▸ hd⟩, rfl, rfl, rfl⟩)
    | setiv iv v hk => exact .inr (.inr ⟨accepted_accept _ _, payload_of_decode_setiv hd ▸ hd, hk, rfl⟩)
    | read dout u hk hu => exact .inl hu

/-! ## The invariant -/

/-- Settles O48: the reset state is unkeyed and holds no valid IV. -/
theorem resetMeetsTheInvariant : Obligations.ResetMeetsTheInvariant where
  tables_of_key h := nomatch h
  iv_of_keyed h := nomatch h

theorem tables_of_arch {s t : State} (h : t.arch = s.arch) : t.tables = s.tables :=
  congrArg (fun a : Arch => Tables.mk a.p a.s) h

/-- The invariant reads the architectural state alone. -/
theorem inv_of_arch {s t : State} (h : t.arch = s.arch) (hs : Inv s) : Inv t where
  tables_of_key hk := by
    rw [tables_of_arch h]
    exact hs.tables_of_key ((congrArg Arch.keyed h).symm.trans hk)
  iv_of_keyed hv := (congrArg Arch.keyed h).trans (hs.iv_of_keyed ((congrArg Arch.ivValid h).symm.trans hv))

theorem arch_of_onWholeBlocks {x y : List Byte} {s t u : State} (hu : u.arch = s.arch)
    (h : onWholeBlocks x (u.withResBytes y) = .next t) : t.arch = s.arch := by
  obtain ⟨-, rfl⟩ := onWholeBlocks_next x _ t h
  exact hu

/-- An internal operation other than KSCHED writes no architectural state (R22). -/
theorem exec_internal_arch (i : Instr) (s t : State) (hi : i.isCommand = false) (hk : ∀ key, i ≠ .ksched key)
    (h : exec i s = .next t) : t.arch = s.arch := by
  cases i with
  | init | setiv | encode | decode => cases hi
  | ksched key => exact absurd rfl (hk key)
  | ecbEnc x => exact arch_of_onWholeBlocks (encBy_arch .ecb x s) h
  | ecbDec x => exact arch_of_onWholeBlocks (decBy_arch .ecb x s) h
  | cbcEnc x => exact arch_of_onWholeBlocks (encBy_arch .cbc x s) h
  | cbcDec x => exact arch_of_onWholeBlocks (decBy_arch .cbc x s) h
  | _ => cases h; rfl

/-- KSCHED completes on a non-empty key alone (R80). -/
theorem execKsched_next {key : List Byte} {s t : State} (h : execKsched key s = .next t) :
    key ≠ [] ∧ t = runKsched key s := by
  cases key with
  | nil => cases h
  | cons b key => cases h; exact ⟨List.cons_ne_nil _ _, rfl⟩

/-- KSCHED leaves the tables of its key and writes no flag (R80). -/
theorem inv_runKsched {key : List Byte} {s : State} (hkey : key ≠ []) (hs : Inv s) : Inv (runKsched key s) where
  tables_of_key _ := ⟨key, hkey, runKsched_tables key s⟩
  iv_of_keyed := hs.iv_of_keyed

/-- INIT keys the core and leaves no valid IV (R136). -/
theorem inv_withConfig {s : State} {key : List Byte} (hkey : key ≠ []) (mode : Mode) (pad : Padding) :
    Inv ((runKsched key s).withConfig mode pad) where
  tables_of_key _ := ⟨key, hkey, by simp⟩
  iv_of_keyed h := nomatch h

/-- SETIV makes the IV valid on a keyed core (R137). -/
theorem inv_withIv {s : State} (hk : s.keyed = true) (v : Vector Byte 8) (hs : Inv s) : Inv (s.withIv v) where
  tables_of_key := hs.tables_of_key
  iv_of_keyed _ := hk

theorem inv_of_effect {s t : State} {i : Instr} (h : CommandEffect s i t) (hs : Inv s) : Inv t := by
  cases h with
  | rejected e he => exact inv_of_arch (reject_arch e s) hs
  | init m pd key mode pad hkey => exact inv_of_arch (accept_arch _ _) (inv_withConfig hkey mode pad)
  | setiv iv v hk => exact inv_of_arch (accept_arch _ _) (inv_withIv hk v hs)
  | read dout u hk hu => exact inv_of_arch hu hs

/-- Every operation keeps the invariant: KSCHED, a host command, and the internal operations that write nothing of it. -/
theorem exec_inv (i : Instr) (s t : State) (hs : Inv s) (h : exec i s = .next t) : Inv t := by
  by_cases hksched : ∃ key, i = .ksched key
  · obtain ⟨key, rfl⟩ := hksched
    obtain ⟨hkey, rfl⟩ := execKsched_next h
    exact inv_runKsched hkey hs
  · cases hi : i.isCommand with
    | true =>
      obtain ⟨u, hu, heff⟩ := exec_effect i s hi
      cases hu.symm.trans h
      exact inv_of_effect heff hs
    | false => exact inv_of_arch (exec_internal_arch i s t hi (fun key hk => hksched ⟨key, hk⟩) h) hs

/-- Settles O47: an idle step keeps the state, a reserved byte is a rejection, and a command is an operation. -/
theorem everyStepKeepsTheInvariant : Obligations.EveryStepKeepsTheInvariant := by
  refine ⟨fun s t hs h => ?_, exec_inv⟩
  cases hp : s.pending with
  | nil =>
    rw [step_idle s hp] at h
    cases h
    exact hs
  | cons c rest =>
    have hr : Inv (s.withPending rest) := inv_of_arch (State.withPending_arch s rest) hs
    obtain ⟨u, hu, hres⟩ := step_effect s c rest hp
    cases hu.symm.trans h
    obtain rfl | ⟨i, -, heff⟩ := hres
    · exact inv_of_arch (reject_arch _ _) hr
    · exact inv_of_effect heff hr

end Sys2Proof.Machine
end

section
/-! PROOF. Nothing but the architectural state reaches a response (O50). The checks and the outputs of the commands read that
state alone, so one command keeps "same architectural state" and gives the same response; the rest is one induction on the
commands. -/

namespace Sys2Proof.Machine

/-! ## Relations that every command keeps -/

/-- The two outcomes of one command: next states with the same response, related again. -/
def AnswerAlike (R : State → State → Prop) (x y : Result) : Prop :=
  ∃ t t' r, x = .next t ∧ y = .next t' ∧ t.response = some r ∧ t'.response = some r ∧ R t t'

/-- Related states answer every command alike and stay related. -/
def KeptByCommands (R : State → State → Prop) : Prop :=
  ∀ c s s', R s s' → AnswerAlike R (issue c s) (issue c s')

theorem afterAll_cons (s t : State) (c : Command) (cs : List Command) (h : issue c s = .next t) :
    afterAll s (c :: cs) = afterAll t cs := by
  simp [afterAll, h]

theorem KeptByCommands.serve_eq {R : State → State → Prop} (hR : KeptByCommands R) (cs : List Command) :
    ∀ {s s' : State}, R s s' → serve s cs = serve s' cs := by
  induction cs with
  | nil => intro s s' _; rfl
  | cons c cs ih =>
    intro s s' hs
    obtain ⟨t, t', r, ht, ht', hr, hr', hrel⟩ := hR c s s' hs
    rw [serve_cons s t c cs r ht hr, serve_cons s' t' c cs r ht' hr', ih hrel]

theorem KeptByCommands.afterAll {R : State → State → Prop} (hR : KeptByCommands R) (cs : List Command) :
    ∀ {s s' : State}, R s s' → R (afterAll s cs) (afterAll s' cs) := by
  induction cs with
  | nil => intro s s' hs; exact hs
  | cons c cs ih =>
    intro s s' hs
    obtain ⟨t, t', r, ht, ht', -, -, hrel⟩ := hR c s s' hs
    rw [afterAll_cons s t c cs ht, afterAll_cons s' t' c cs ht']
    exact ih hrel

/-! ## A command by the answer of its checks -/

theorem execSetiv_of_error {iv : List Byte} {s : State} {e : Status} (h : checkSetiv iv s = .error e) :
    execSetiv iv s = .next (reject e s) := by
  simp [execSetiv, h]

theorem execSetiv_of_ok {iv : List Byte} {s : State} {v : Vector Byte 8} (h : checkSetiv iv s = .ok v) :
    execSetiv iv s = .next (accept [] (s.withIv v)) := by
  simp [execSetiv, h]

theorem execEncode_of_some {x : List Byte} {s : State} {e : Status} (h : checkEncode s = some e) :
    execEncode x s = .next (reject e s) := by
  simp [execEncode, h]

theorem execEncode_of_none {x : List Byte} {s : State} (h : checkEncode s = none) : execEncode x s =
    .next (accept (encBy s.mode (padBy s.pad x) s).out (encBy s.mode (padBy s.pad x) s).state) := by
  simp [execEncode, h]

theorem execDecode_of_some {z : List Byte} {s : State} {e : Status} (h : checkDecode z s = some e) :
    execDecode z s = .next (reject e s) := by
  simp [execDecode, h]

theorem execDecode_of_none {z : List Byte} {s : State} (h : checkDecode z s = none) : execDecode z s =
    .next (accept (unpadBy s.pad (decBy s.mode z s).out) (decBy s.mode z s).state) := by
  simp [execDecode, h]

theorem issue_instr {c : Command} {i : Instr} (hd : decode c = .instr i) (s : State) :
    issue c s = exec i (s.withPending []) :=
  step_instr _ c [] i rfl hd

theorem issue_reserved {c : Command} {why : Reserved} (hd : decode c = .reserved why) (s : State) :
    issue c s = .next (reject .errCmd (s.withPending [])) :=
  step_reserved _ c [] why rfl hd

/-! ## The checks and the outputs read the architectural state alone -/

@[simp] theorem runKsched_iv (key : List Byte) (s : State) : (runKsched key s).iv = s.iv := rfl

@[simp] theorem runKsched_p (key : List Byte) (s : State) : (runKsched key s).p = (ksched key).tables.p := rfl

@[simp] theorem runKsched_s (key : List Byte) (s : State) : (runKsched key s).s = (ksched key).tables.s := rfl

/-- Two states hold the same architectural state (R12). -/
def SameArch (s s' : State) : Prop := s.arch = s'.arch

namespace SameArch
section
variable {s s' : State} (h : SameArch s s')
include h

theorem keyed : s.keyed = s'.keyed := congrArg Arch.keyed h
theorem mode : s.mode = s'.mode := congrArg Arch.mode h
theorem pad : s.pad = s'.pad := congrArg Arch.pad h
theorem ivValid : s.ivValid = s'.ivValid := congrArg Arch.ivValid h
theorem iv : s.iv = s'.iv := congrArg Arch.iv h
theorem tables : s.tables = s'.tables := tables_of_arch h

theorem checkSetiv_congr (iv : List Byte) : checkSetiv iv s = checkSetiv iv s' := by
  simp only [checkSetiv, h.keyed]

theorem checkEncode_congr : checkEncode s = checkEncode s' := by
  rw [checkEncode_eq, checkEncode_eq, h.keyed, h.mode, h.ivValid]

theorem checkDecode_congr (z : List Byte) : checkDecode z s = checkDecode z s' := by
  rw [checkDecode_eq, checkDecode_eq, h.keyed, h.mode, h.ivValid]

theorem encBy_out (m : Mode) (x : List Byte) : (encBy m x s).out = (encBy m x s').out := by
  cases m <;> simp only [encBy, ecbEnc, cbcEnc, h.tables, h.iv]

theorem decBy_out (m : Mode) (x : List Byte) : (decBy m x s).out = (decBy m x s').out := by
  cases m <;> simp only [decBy, ecbDec, cbcDec, h.tables, h.iv]

theorem encBy_state (m : Mode) (x : List Byte) : SameArch (encBy m x s).state (encBy m x s').state :=
  (encBy_arch m x s).trans (h.trans (encBy_arch m x s').symm)

theorem decBy_state (m : Mode) (x : List Byte) : SameArch (decBy m x s).state (decBy m x s').state :=
  (decBy_arch m x s).trans (h.trans (decBy_arch m x s').symm)

theorem withConfig (key : List Byte) (m : Mode) (d : Padding) :
    SameArch ((runKsched key s).withConfig m d) ((runKsched key s').withConfig m d) := by
  simp [SameArch, h.iv]

theorem withIv (v : Vector Byte 8) : SameArch (s.withIv v) (s'.withIv v) :=
  congrArg (fun a : Arch => (⟨a.keyed, a.mode, a.pad, true, v, a.p, a.s⟩ : Arch)) h

/-! ## One command -/

theorem reject_alike (e : Status) : AnswerAlike SameArch (.next (reject e s)) (.next (reject e s')) :=
  ⟨_, _, _, rfl, rfl, reject_response e s, reject_response e s', h⟩

theorem accept_alike (dout : List Byte) : AnswerAlike SameArch (.next (accept dout s)) (.next (accept dout s')) :=
  ⟨_, _, _, rfl, rfl, accept_response dout s, accept_response dout s', h⟩

theorem execInit_alike (m : BitVec 2) (pd : BitVec 3) (key : List Byte) :
    AnswerAlike SameArch (execInit m pd key s) (execInit m pd key s') := by
  unfold execInit
  cases checkInit m pd key with
  | error e => exact h.reject_alike e
  | ok q => exact (h.withConfig key q.1 q.2).accept_alike []

theorem execSetiv_alike (iv : List Byte) : AnswerAlike SameArch (execSetiv iv s) (execSetiv iv s') := by
  have hc := h.checkSetiv_congr iv
  cases hs : checkSetiv iv s' with
  | error e =>
    rw [execSetiv_of_error (hc.trans hs), execSetiv_of_error hs]
    exact h.reject_alike e
  | ok v =>
    rw [execSetiv_of_ok (hc.trans hs), execSetiv_of_ok hs]
    exact (h.withIv v).accept_alike []

theorem execEncode_alike (x : List Byte) : AnswerAlike SameArch (execEncode x s) (execEncode x s') := by
  have hc := h.checkEncode_congr
  cases hs : checkEncode s' with
  | some e =>
    rw [execEncode_of_some (hc.trans hs), execEncode_of_some hs]
    exact h.reject_alike e
  | none =>
    rw [execEncode_of_none (hc.trans hs), execEncode_of_none hs, h.mode, h.pad, h.encBy_out]
    exact (h.encBy_state _ _).accept_alike _

theorem execDecode_alike (z : List Byte) : AnswerAlike SameArch (execDecode z s) (execDecode z s') := by
  have hc := h.checkDecode_congr z
  cases hs : checkDecode z s' with
  | some e =>
    rw [execDecode_of_some (hc.trans hs), execDecode_of_some hs]
    exact h.reject_alike e
  | none =>
    rw [execDecode_of_none (hc.trans hs), execDecode_of_none hs, h.mode, h.pad, h.decBy_out]
    exact (h.decBy_state _ _).accept_alike _

theorem exec_alike (i : Instr) (hi : i.isCommand = true) : AnswerAlike SameArch (exec i s) (exec i s') := by
  cases i with
  | init m pd key => exact h.execInit_alike m pd key
  | setiv iv => exact h.execSetiv_alike iv
  | encode x => exact h.execEncode_alike x
  | decode z => exact h.execDecode_alike z
  | _ => cases hi

end
end SameArch

/-- R23: "same architectural state" survives every command, which is answered alike. -/
theorem sameArch_keptByCommands : KeptByCommands SameArch := by
  intro c s s' h
  have hp : SameArch (s.withPending []) (s'.withPending []) := h
  cases hd : decode c with
  | reserved why =>
    rw [issue_reserved hd, issue_reserved hd]
    exact hp.reject_alike .errCmd
  | instr i =>
    rw [issue_instr hd, issue_instr hd]
    exact hp.exec_alike i (isCommand_of_decode c i hd)

/-- Settles O50: both halves are the induction over commands for "same architectural state". -/
theorem onlyArchitecturalStateSurvives : Obligations.OnlyArchitecturalStateSurvives :=
  fun _ _ cs h => ⟨sameArch_keptByCommands.serve_eq cs h, sameArch_keptByCommands.afterAll cs h⟩

end Sys2Proof.Machine
end

section
/-! PROOF. The core refines the software object that keeps its key (O52), and so an unkeyed core answers alike whatever reset
left in it (O49). `Represents` relates a state to the object; one command keeps it and gives the object's answer. -/

namespace Sys2Proof.Machine

/-! ## The relation between the core and the object -/

/-- A keyed core stands for the object `k`: the tables of its key, its mode, its padding and its IV, if one is set (R20). -/
structure Holds (s : State) (k : Cipher) : Prop where
  keyed : s.keyed = true
  tables : s.tables = k.tables
  mode : s.mode = k.mode
  pad : s.pad = k.pad
  iv : k.iv = if s.ivValid then some s.iv else none

/-- An unkeyed core stands for the object before it is constructed. -/
def Represents (s : State) : Option Cipher → Prop
  | none => s.keyed = false
  | some k => Holds s k

theorem Holds.represents {s : State} {k : Cipher} (h : Holds s k) : Represents s (some k) := h

/-- The core's outcome is the object's: the same answer, and a state that stands for the object after the call. -/
def AnswersAs (x : Result) (q : Response × Option Cipher) : Prop :=
  ∃ t, x = .next t ∧ t.response = some q.1 ∧ Represents t q.2

/-- The relation reads the architectural state alone. -/
theorem Represents.of_arch {s t : State} {o : Option Cipher} (h : SameArch t s) (hs : Represents s o) : Represents t o := by
  cases o with
  | none => exact h.keyed.trans hs
  | some k =>
    have hk : Holds s k := hs
    exact ⟨h.keyed.trans hk.keyed, h.tables.trans hk.tables, h.mode.trans hk.mode, h.pad.trans hk.pad,
      by rw [h.ivValid, h.iv, hk.iv]⟩

theorem Represents.answers_reject {s : State} {o : Option Cipher} (h : Represents s o) (e : Status) :
    AnswersAs (.next (reject e s)) (⟨e, []⟩, o) :=
  ⟨_, rfl, reject_response e s, h.of_arch (reject_arch e s)⟩

theorem Represents.answers_accept {s : State} {o : Option Cipher} (h : Represents s o) (dout : List Byte) :
    AnswersAs (.next (accept dout s)) (⟨.ok, dout⟩, o) :=
  ⟨_, rfl, accept_response dout s, h.of_arch (accept_arch dout s)⟩

/-! ## INIT, with or without an object -/

/-- The object's constructor makes INIT's checks in INIT's order (R136, R155). -/
theorem call_init {c : Command} {m : BitVec 2} {pd : BitVec 3} {key : List Byte} (hd : decode c = .instr (.init m pd key))
    (o : Option Cipher) :
    (∀ e, checkInit m pd key = .error e → Cipher.call o c = (⟨e, []⟩, o)) ∧
      ∀ mode pad, checkInit m pd key = .ok (mode, pad) → Cipher.call o c = (⟨.ok, []⟩, some ⟨key, mode, pad, none⟩) := by
  cases key with
  | nil => simp [Cipher.call, checkInit, hd]
  | cons b key =>
    cases hm : modeOf m with
    | none => simp [Cipher.call, checkInit, hd, hm]
    | some mode =>
      cases hp : paddingOf pd with
      | none => simp [Cipher.call, checkInit, hd, hm, hp]
      | some pad => simp [Cipher.call, checkInit, hd, hm, hp]

/-- After an accepted INIT the core stands for a new object, whatever it held before (R136, R142). -/
theorem holds_of_init (s : State) (key : List Byte) (mode : Mode) (pad : Padding) :
    Holds ((runKsched key s).withConfig mode pad) ⟨key, mode, pad, none⟩ where
  keyed := rfl
  tables := by simp [Cipher.tables]
  mode := rfl
  pad := rfl
  iv := rfl

/-- One INIT on the core is one construction of the object. -/
theorem Represents.answers_init {c : Command} {m : BitVec 2} {pd : BitVec 3} {key : List Byte} {s : State} {o : Option Cipher}
    (hd : decode c = .instr (.init m pd key)) (h : Represents s o) :
    AnswersAs (execInit m pd key s) (Cipher.call o c) := by
  obtain ⟨hbad, hgood⟩ := call_init hd o
  unfold execInit
  cases hc : checkInit m pd key with
  | error e =>
    rw [hbad e hc]
    exact h.answers_reject e
  | ok q =>
    rw [hgood q.1 q.2 hc]
    exact (holds_of_init s key q.1 q.2).represents.answers_accept []

/-! ## The other commands on an unkeyed core -/

/-- Without a key every command but INIT is rejected with ERR_NOKEY, before any other check (R13, R155). -/
theorem exec_unkeyed {i : Instr} {s : State} (hi : i.isCommand = true) (hn : ∀ m pd key, i ≠ .init m pd key)
    (h : s.keyed = false) : exec i s = .next (reject .errNokey s) := by
  cases i with
  | init m pd key => exact absurd rfl (hn m pd key)
  | setiv iv => exact execSetiv_of_error (by simp [checkSetiv, h])
  | encode x => exact execEncode_of_some (by simp [checkEncode, h])
  | decode z => exact execDecode_of_some (by simp [checkDecode, h])
  | _ => cases hi

theorem call_none {c : Command} {i : Instr} (hd : decode c = .instr i) (hn : ∀ m pd key, i ≠ .init m pd key) :
    Cipher.call none c = (⟨.errNokey, []⟩, none) := by
  cases i with
  | init m pd key => exact absurd rfl (hn m pd key)
  | _ => simp [Cipher.call, hd]

theorem Represents.answers_unkeyed {c : Command} {i : Instr} {s : State} (hd : decode c = .instr i)
    (hn : ∀ m pd key, i ≠ .init m pd key) (h : Represents s none) : AnswersAs (exec i s) (Cipher.call none c) := by
  rw [exec_unkeyed (isCommand_of_decode c i hd) hn h, call_none hd hn]
  exact h.answers_reject .errNokey

/-! ## The other commands on a keyed core -/

section
variable {s : State} {k : Cipher} (h : Holds s k)
include h

/-- The core's IV requirement fails exactly where the object has no IV to use (R138, R139). -/
theorem Holds.ivFor_of_missing (hm : ivMissing s = true) : k.ivFor = none := by
  simp only [ivMissing, Bool.and_eq_true, beq_iff_eq, Bool.not_eq_true'] at hm
  obtain ⟨hmode, hiv⟩ := hm
  simp [Cipher.ivFor, ← h.mode, hmode, h.iv, hiv]

theorem Holds.ivFor_of_present (hm : ivMissing s = false) : ∃ v, k.ivFor = some v ∧ (s.mode = .cbc → v = s.iv) := by
  cases hmode : s.mode with
  | ecb => exact ⟨k.iv.getD (Vector.replicate 8 0), by simp only [Cipher.ivFor, ← h.mode, hmode], nofun⟩
  | cbc =>
    have hiv : s.ivValid = true := by simpa [ivMissing, hmode] using hm
    exact ⟨s.iv, by simp [Cipher.ivFor, ← h.mode, hmode, h.iv, hiv], fun _ => rfl⟩

theorem Holds.encBy_out {v : Vector Byte 8} (hv : s.mode = .cbc → v = s.iv) (y : List Byte) :
    (encBy s.mode y s).out = k.encrypt v y := by
  unfold Cipher.encrypt
  rw [← h.mode]
  cases hm : s.mode with
  | ecb => simp [encBy, ecbEnc, ecbEncBlocks, h.tables]
  | cbc => simp [encBy, cbcEnc, h.tables, hv hm]

theorem Holds.decBy_out {v : Vector Byte 8} (hv : s.mode = .cbc → v = s.iv) (z : List Byte) :
    (decBy s.mode z s).out = k.decrypt v z := by
  unfold Cipher.decrypt
  rw [← h.mode]
  cases hm : s.mode with
  | ecb => simp [decBy, ecbDec, ecbDecBlocks, h.tables]
  | cbc => simp [decBy, cbcDec, h.tables, hv hm]

theorem Holds.withIv (v : Vector Byte 8) : Holds (s.withIv v) { k with iv := some v } :=
  ⟨h.keyed, h.tables, h.mode, h.pad, rfl⟩

theorem Holds.answers_setiv {c : Command} {iv : List Byte} (hd : decode c = .instr (.setiv iv)) :
    AnswersAs (execSetiv iv s) (Cipher.call (some k) c) := by
  cases hv : ivOf iv with
  | none =>
    rw [execSetiv_of_error (e := .errIv) (by simp [checkSetiv, h.keyed, hv]),
      show Cipher.call (some k) c = (⟨.errIv, []⟩, some k) by simp [Cipher.call, hd, hv]]
    exact h.represents.answers_reject .errIv
  | some v =>
    rw [execSetiv_of_ok (v := v) (by simp [checkSetiv, h.keyed, hv]),
      show Cipher.call (some k) c = (⟨.ok, []⟩, some { k with iv := some v }) by simp [Cipher.call, hd, hv]]
    exact (h.withIv v).represents.answers_accept []

theorem Holds.answers_encode {c : Command} {x : List Byte} (hd : decode c = .instr (.encode x)) :
    AnswersAs (execEncode x s) (Cipher.call (some k) c) := by
  cases hm : ivMissing s with
  | true =>
    rw [execEncode_of_some (e := .errIv) (by simp [checkEncode, h.keyed, hm]),
      show Cipher.call (some k) c = (⟨.errIv, []⟩, some k) by simp [Cipher.call, hd, h.ivFor_of_missing hm]]
    exact h.represents.answers_reject .errIv
  | false =>
    obtain ⟨v, hv, hiv⟩ := h.ivFor_of_present hm
    rw [execEncode_of_none (by simp [checkEncode, h.keyed, hm]), h.encBy_out hiv, h.pad,
      show Cipher.call (some k) c = (⟨.ok, k.encrypt v (padBy k.pad x)⟩, some k) by simp [Cipher.call, hd, hv]]
    exact (h.represents.of_arch (encBy_arch _ _ _)).answers_accept _

theorem Holds.answers_decode {c : Command} {z : List Byte} (hd : decode c = .instr (.decode z)) :
    AnswersAs (execDecode z s) (Cipher.call (some k) c) := by
  by_cases hz : z.length % 8 = 0
  · cases hm : ivMissing s with
    | true =>
      rw [execDecode_of_some (e := .errIv) (by simp [checkDecode, h.keyed, hm, hz]),
        show Cipher.call (some k) c = (⟨.errIv, []⟩, some k) by simp [Cipher.call, hd, hz, h.ivFor_of_missing hm]]
      exact h.represents.answers_reject .errIv
    | false =>
      obtain ⟨v, hv, hiv⟩ := h.ivFor_of_present hm
      rw [execDecode_of_none (by simp [checkDecode, h.keyed, hm, hz]), h.decBy_out hiv, h.pad,
        show Cipher.call (some k) c = (⟨.ok, unpadBy k.pad (k.decrypt v z)⟩, some k) by simp [Cipher.call, hd, hz, hv]]
      exact (h.represents.of_arch (decBy_arch _ _ _)).answers_accept _
  · rw [execDecode_of_some (e := .errLen) (by simp [checkDecode, h.keyed, hz]),
      show Cipher.call (some k) c = (⟨.errLen, []⟩, some k) by simp [Cipher.call, hd, hz]]
    exact h.represents.answers_reject .errLen

end

/-! ## The simulation -/

/-- One command on the core is one call on the object. -/
theorem Represents.answers_issue {s : State} {o : Option Cipher} (h : Represents s o) (c : Command) :
    AnswersAs (issue c s) (Cipher.call o c) := by
  have hp : Represents (s.withPending []) o := h.of_arch (State.withPending_arch s [])
  obtain ⟨why, hd⟩ | ⟨m, pd, hd⟩ | hd | hd | hd := decode_cases c
  · rw [issue_reserved hd, show Cipher.call o c = (⟨.errCmd, []⟩, o) by simp [Cipher.call, hd]]
    exact hp.answers_reject .errCmd
  all_goals rw [issue_instr hd]
  · exact hp.answers_init hd
  · cases o with
    | none => exact hp.answers_unkeyed hd nofun
    | some k => exact Holds.answers_setiv hp hd
  · cases o with
    | none => exact hp.answers_unkeyed hd nofun
    | some k => exact Holds.answers_encode hp hd
  · cases o with
    | none => exact hp.answers_unkeyed hd nofun
    | some k => exact Holds.answers_decode hp hd

theorem Represents.serve_eq {s : State} {o : Option Cipher} (h : Represents s o) (cs : List Command) :
    serve s cs = Cipher.serve o cs := by
  induction cs generalizing s o with
  | nil => rfl
  | cons c cs ih =>
    obtain ⟨t, ht, hr, hrep⟩ := h.answers_issue c
    rw [serve_cons s t c cs _ ht hr, ih hrep, Cipher.serve]

/-- Settles O52, by the simulation, from an unkeyed core and from a keyed one. -/
theorem coreRefinesTheCipherObject : Obligations.CoreRefinesTheCipherObject :=
  ⟨fun s cs hk => Represents.serve_eq (s := s) (o := none) hk cs,
    fun _ _ cs hk ht hm hp hiv => (Holds.mk hk ht hm hp hiv).represents.serve_eq cs⟩

/-- Settles O49: every unkeyed state answers as the software object before it is constructed, which holds nothing. -/
theorem unspecifiedResetValuesNeverMatter : Obligations.UnspecifiedResetValuesNeverMatter := by
  intro s s' cs hs hs'
  obtain ⟨hunkeyed, -⟩ := coreRefinesTheCipherObject
  exact (hunkeyed s cs hs).trans (hunkeyed s' cs hs').symm

end Sys2Proof.Machine
end

section
/-! PROOF. Payloads as blocks (R31, R32, R125) and the two CBC operations (O32, O33). `blocks` undoes `bytesOfBlocks`, and
`blockAt x k` is entry k of `blocks x`, so a statement about the blocks of a payload is one about a list of blocks. Each chain
is then one induction on that list. -/

namespace Sys2Proof.Machine

/-! ## Payloads as lists of blocks -/

/-- R73, R74: PACK32 undoes UNPACK32. -/
theorem pack32_byteOf (w : Word) : pack32 (byteOf w 0) (byteOf w 1) (byteOf w 2) (byteOf w 3) = w := by
  unfold pack32 byteOf
  iterate 3 rw [BitVec.extractLsb'_append_extractLsb'_eq_extractLsb' (by rfl)]
  exact BitVec.extractLsb'_eq_self

theorem ivBlock_eq_ivAsBlock (s : State) : ivBlock s.iv = ivAsBlock s := by
  simp [ivBlock, ivAsBlock, blockAt, packBlock]

theorem blocks_blockBytes_append (b : Block) (x : List Byte) : blocks (blockBytes b ++ x) = b :: blocks x := by
  show packBlock _ _ _ _ _ _ _ _ :: blocks x = _
  simp only [packBlock, pack32_byteOf]

theorem blocks_bytesOfBlocks (bs : List Block) : blocks (bytesOfBlocks bs) = bs := by
  induction bs with
  | nil => rfl
  | cons b bs ih => rw [bytesOfBlocks_cons, blocks_blockBytes_append, ih]

/-- A sequence that has no first block is shorter than one. -/
theorem length_lt_of_no_block {x : List Byte}
    (hx : ∀ b0 b1 b2 b3 b4 b5 b6 b7 rest, x = b0 :: b1 :: b2 :: b3 :: b4 :: b5 :: b6 :: b7 :: rest → False) :
    x.length < 8 := by
  iterate 8
    rcases x with _ | ⟨_, x⟩
    · simp
  exact (hx _ _ _ _ _ _ _ _ _ rfl).elim

theorem blocks_length (x : List Byte) : (blocks x).length = x.length / 8 := by
  induction x using blocks.induct with
  | case1 b0 b1 b2 b3 b4 b5 b6 b7 rest ih => simp [blocks, ih]; omega
  | case2 x hx =>
    have := length_lt_of_no_block hx
    rw [blocks, List.length_nil]
    · omega
    · exact hx

theorem getElem?_blocks {x : List Byte} {k : Nat} (h : HasBlock x k) : (blocks x)[k]? = some (blockAt x k) := by
  unfold HasBlock at h
  induction x using blocks.induct generalizing k with
  | case1 b0 b1 b2 b3 b4 b5 b6 b7 rest ih =>
    cases k with
    | zero => rfl
    | succ k =>
      simp only [List.length_cons] at h
      exact ih (k := k) (by omega)
  | case2 x hx =>
    have := length_lt_of_no_block hx
    omega

/-- Block k of the bytes of a list of blocks is entry k of the list (R125). -/
theorem blockAt_bytesOfBlocks {bs : List Block} {k : Nat} {b : Block} (h : bs[k]? = some b) :
    blockAt (bytesOfBlocks bs) k = b := by
  obtain ⟨hk, -⟩ := List.getElem?_eq_some_iff.mp h
  have hb : HasBlock (bytesOfBlocks bs) k := by
    unfold HasBlock
    rw [bytesOfBlocks_length]
    omega
  have hentry := getElem?_blocks hb
  rw [blocks_bytesOfBlocks, h] at hentry
  exact (Option.some.inj hentry).symm

/-- A list of as many blocks as a payload of whole blocks has is as long in bytes. -/
theorem bytesOfBlocks_length_of_whole {x : List Byte} {bs : List Block} (hx : x.length % 8 = 0)
    (h : bs.length = (blocks x).length) : (bytesOfBlocks bs).length = x.length := by
  rw [bytesOfBlocks_length, h, blocks_length]
  omega

/-! ## The chains of CBC -/

@[simp] theorem cbcEncBlocks_length (t : Tables) (prev : Block) (bs : List Block) :
    (cbcEncBlocks t prev bs).length = bs.length := by
  induction bs generalizing prev with
  | nil => rfl
  | cons b bs ih => simp [cbcEncBlocks, ih]

@[simp] theorem cbcDecBlocks_length (t : Tables) (prev : Block) (bs : List Block) :
    (cbcDecBlocks t prev bs).length = bs.length := by
  induction bs generalizing prev with
  | nil => rfl
  | cons c bs ih => simp [cbcDecBlocks, ih]

/-- The first ciphertext block takes the chain value CBC.ENC starts from (R128). -/
theorem getElem?_cbcEncBlocks_zero {t : Tables} {prev b : Block} {bs : List Block} (h : bs[0]? = some b) :
    (cbcEncBlocks t prev bs)[0]? = some (encblk t (xorBlock prev b)) := by
  cases bs with
  | nil => cases h
  | cons b' bs => cases h; rfl

/-- Every later ciphertext block takes the ciphertext block before it (R128). -/
theorem getElem?_cbcEncBlocks_succ {t : Tables} {prev b c : Block} {bs : List Block} {k : Nat}
    (hc : (cbcEncBlocks t prev bs)[k]? = some c) (h : bs[k + 1]? = some b) :
    (cbcEncBlocks t prev bs)[k + 1]? = some (encblk t (xorBlock c b)) := by
  induction bs generalizing prev k with
  | nil => cases h
  | cons b' bs ih =>
    cases k with
    | zero => cases hc; exact getElem?_cbcEncBlocks_zero h
    | succ k => exact ih hc h

/-- The first plaintext block is xored with the chain value CBC.DEC starts from (R129). -/
theorem getElem?_cbcDecBlocks_zero {t : Tables} {prev c : Block} {bs : List Block} (h : bs[0]? = some c) :
    (cbcDecBlocks t prev bs)[0]? = some (xorBlock (decblk t c) prev) := by
  cases bs with
  | nil => cases h
  | cons c' bs => cases h; rfl

/-- Every later plaintext block is xored with the ciphertext block before it (R129). -/
theorem getElem?_cbcDecBlocks_succ {t : Tables} {prev c d : Block} {bs : List Block} {k : Nat}
    (hc : bs[k]? = some c) (h : bs[k + 1]? = some d) :
    (cbcDecBlocks t prev bs)[k + 1]? = some (xorBlock (decblk t d) c) := by
  induction bs generalizing prev k with
  | nil => cases h
  | cons c' bs ih =>
    cases k with
    | zero => cases hc; exact getElem?_cbcDecBlocks_zero h
    | succ k => exact ih hc h

theorem HasBlock.of_succ {x : List Byte} {k : Nat} (h : HasBlock x (k + 1)) : HasBlock x k := by
  unfold HasBlock at *
  omega

theorem exec_cbcEnc_of_whole {x : List Byte} (s : State) (h : x.length % 8 = 0) :
    exec (.cbcEnc x) s = .next ((cbcEnc x s).state.withResBytes (cbcEnc x s).out) :=
  onWholeBlocks_of_whole x _ h

theorem exec_cbcDec_of_whole {x : List Byte} (s : State) (h : x.length % 8 = 0) :
    exec (.cbcDec x) s = .next ((cbcDec x s).state.withResBytes (cbcDec x s).out) :=
  onWholeBlocks_of_whole x _ h

theorem cbcEnc_out (x : List Byte) (s : State) :
    (cbcEnc x s).out = bytesOfBlocks (cbcEncBlocks s.tables (ivAsBlock s) (blocks x)) := by
  rw [← ivBlock_eq_ivAsBlock]
  rfl

theorem cbcDec_out (x : List Byte) (s : State) :
    (cbcDec x s).out = bytesOfBlocks (cbcDecBlocks s.tables (ivAsBlock s) (blocks x)) := by
  rw [← ivBlock_eq_ivAsBlock]
  rfl

/-- Settles O32: entry k of the chain on lists, read as block k of the output. -/
theorem cbcEncChainsTheCiphertext : Obligations.CbcEncChainsTheCiphertext := by
  intro x s hx
  refine ⟨(cbcEnc x s).out, _, _, exec_cbcEnc_of_whole s hx, ?_⟩
  rw [cbcEnc_out]
  refine ⟨bytesOfBlocks_length_of_whole hx (by simp), fun h0 => ?_, fun k hk => ?_⟩
  · exact blockAt_bytesOfBlocks (getElem?_cbcEncBlocks_zero (getElem?_blocks h0))
  · have hlen : k < (cbcEncBlocks s.tables (ivAsBlock s) (blocks x)).length := by
      obtain ⟨hlt, -⟩ := List.getElem?_eq_some_iff.mp (getElem?_blocks hk.of_succ)
      rwa [cbcEncBlocks_length]
    have hprev := List.getElem?_eq_getElem hlen
    rw [blockAt_bytesOfBlocks hprev]
    exact blockAt_bytesOfBlocks (getElem?_cbcEncBlocks_succ hprev (getElem?_blocks hk))

/-- Settles O33: as O32, with the chain value an entry of the input. -/
theorem cbcDecChainsTheCiphertext : Obligations.CbcDecChainsTheCiphertext := by
  intro x s hx
  refine ⟨(cbcDec x s).out, _, _, exec_cbcDec_of_whole s hx, ?_⟩
  rw [cbcDec_out]
  refine ⟨bytesOfBlocks_length_of_whole hx (by simp), fun h0 => ?_, fun k hk => ?_⟩
  · exact blockAt_bytesOfBlocks (getElem?_cbcDecBlocks_zero (getElem?_blocks h0))
  · exact blockAt_bytesOfBlocks (getElem?_cbcDecBlocks_succ (getElem?_blocks hk.of_succ) (getElem?_blocks hk))

end Sys2Proof.Machine
end

section
/-! PROOF. A host command executed again in the state it left changes nothing (O53, R38). Its checks and its output read the
architectural state alone; ENCODE and DECODE keep that state, and the working words they leave are those they left before. -/

namespace Sys2Proof.Machine

theorem getLastD_getLastD {α : Type} (l : List α) (a : α) : l.getLastD (l.getLastD a) = l.getLastD a := by
  cases l with
  | nil => rfl
  | cons b l => rfl

/-- An ENC operation on the state it left, answered, leaves that state (R38, R132). -/
theorem encBy_state_again (m : Mode) (x dout : List Byte) (s : State) :
    (encBy m x (accept dout (encBy m x s).state)).state = accept dout (encBy m x s).state := by
  cases m with
  | ecb => exact congrArg (accept dout ∘ s.withLR) (getLastD_getLastD _ _)
  | cbc => exact congrArg (fun b => accept dout ((s.withLR b).withPrev _)) (getLastD_getLastD _ _)

theorem decBy_state_again (m : Mode) (x dout : List Byte) (s : State) :
    (decBy m x (accept dout (decBy m x s).state)).state = accept dout (decBy m x s).state := by
  cases m with
  | ecb => exact congrArg (accept dout ∘ s.withLR) (getLastD_getLastD _ _)
  | cbc => exact congrArg (fun b => accept dout ((s.withLR b).withPrev _)) (getLastD_getLastD _ _)

theorem execInit_again (m : BitVec 2) (pd : BitVec 3) (key : List Byte) (s : State) :
    ∃ t, execInit m pd key s = .next t ∧ execInit m pd key t = .next t := by
  unfold execInit
  cases checkInit m pd key with
  | error e => exact ⟨_, rfl, rfl⟩
  | ok q => exact ⟨_, rfl, rfl⟩

theorem execSetiv_again (iv : List Byte) (s : State) :
    ∃ t, execSetiv iv s = .next t ∧ execSetiv iv t = .next t := by
  cases h : checkSetiv iv s with
  | error e => exact ⟨_, execSetiv_of_error h, execSetiv_of_error (s := reject e s) h⟩
  | ok v => exact ⟨_, execSetiv_of_ok h, execSetiv_of_ok (s := accept [] (s.withIv v)) h⟩

theorem execEncode_again (x : List Byte) (s : State) :
    ∃ t, execEncode x s = .next t ∧ execEncode x t = .next t := by
  cases h : checkEncode s with
  | some e => exact ⟨_, execEncode_of_some h, execEncode_of_some (s := reject e s) h⟩
  | none =>
    refine ⟨_, execEncode_of_none h, ?_⟩
    have ha (dout : List Byte) : SameArch (accept dout (encBy s.mode (padBy s.pad x) s).state) s := encBy_arch _ _ _
    rw [execEncode_of_none ((ha _).checkEncode_congr.trans h), (ha _).mode, (ha _).pad, (ha _).encBy_out,
      encBy_state_again]
    rfl

theorem execDecode_again (z : List Byte) (s : State) :
    ∃ t, execDecode z s = .next t ∧ execDecode z t = .next t := by
  cases h : checkDecode z s with
  | some e => exact ⟨_, execDecode_of_some h, execDecode_of_some (s := reject e s) h⟩
  | none =>
    refine ⟨_, execDecode_of_none h, ?_⟩
    have ha (dout : List Byte) : SameArch (accept dout (decBy s.mode z s).state) s := decBy_arch _ _ _
    rw [execDecode_of_none (((ha _).checkDecode_congr z).trans h), (ha _).mode, (ha _).pad, (ha _).decBy_out,
      decBy_state_again]
    rfl

/-- Settles O53, command by command. -/
theorem commandsAreIdempotent : Obligations.CommandsAreIdempotent := by
  intro i s hi
  cases i with
  | init m pd key => exact execInit_again m pd key s
  | setiv iv => exact execSetiv_again iv s
  | encode x => exact execEncode_again x s
  | decode z => exact execDecode_again z s
  | _ => cases hi

end Sys2Proof.Machine
end

section
/-! PROOF. The encoding of spec/30_encoding.md (O2 to O6, O55). A command decodes to an operation exactly when it is that
operation's encoding, since the fields of a command byte and its two formats undo each other. Which bytes are selected, which
are reserved and what a line assembles into are read off that. -/

namespace Sys2Proof.Machine

/-! ## The fields of a command byte and its two formats -/

/-- A byte is its OP field and the five bits below it (R50). -/
theorem opField_append_zeroField (b : Byte) : opField b ++ zeroField b = b :=
  BitVec.extractLsb'_append_extractLsb' (w := 3) (len := 5)

/-- A byte is in format K with its own fields (R51). -/
theorem byteK_fields (b : Byte) : byteK (opField b) (mField b) (pdField b) = b := by
  have hop : opField b ++ mField b = b.extractLsb' 3 5 :=
    BitVec.extractLsb'_append_extractLsb'_eq_extractLsb' (start₁ := 3) (len₁ := 2) (len₂ := 3) rfl
  rw [byteK, hop]
  exact BitVec.extractLsb'_append_extractLsb' (w := 5) (len := 3)

/-- A byte with a zero ZERO field is in format Z (R52). -/
theorem byteZ_opField {b : Byte} (h : zeroField b = 0) : byteZ (opField b) = b := by
  conv_rhs => rw [← opField_append_zeroField b, h]
  rfl

@[simp] theorem opField_byteK (op : BitVec 3) (m : BitVec 2) (pd : BitVec 3) : opField (byteK op m pd) = op :=
  (BitVec.extractLsb'_append_eq_of_le (by decide)).trans BitVec.extractLsb'_append_eq_left

@[simp] theorem mField_byteK (op : BitVec 3) (m : BitVec 2) (pd : BitVec 3) : mField (byteK op m pd) = m :=
  (BitVec.extractLsb'_append_eq_of_le (by decide)).trans BitVec.extractLsb'_append_eq_right

@[simp] theorem pdField_byteK (op : BitVec 3) (m : BitVec 2) (pd : BitVec 3) : pdField (byteK op m pd) = pd :=
  BitVec.extractLsb'_append_eq_right

@[simp] theorem opField_byteZ (op : BitVec 3) : opField (byteZ op) = op :=
  BitVec.extractLsb'_append_eq_left

@[simp] theorem zeroField_byteZ (op : BitVec 3) : zeroField (byteZ op) = 0 :=
  BitVec.extractLsb'_append_eq_right

theorem opField_toNat (b : Byte) : (opField b).toNat = b.toNat / 32 := by
  have := b.isLt
  simp only [opField, BitVec.extractLsb'_toNat, Nat.shiftRight_eq_div_pow]
  omega

theorem mField_toNat (b : Byte) : (mField b).toNat = b.toNat / 8 % 4 := by
  simp only [mField, BitVec.extractLsb'_toNat, Nat.shiftRight_eq_div_pow]

theorem pdField_toNat (b : Byte) : (pdField b).toNat = b.toNat % 8 := by
  simp only [pdField, BitVec.extractLsb'_toNat, Nat.shiftRight_zero]

theorem byteK_toNat (op : BitVec 3) (m : BitVec 2) (pd : BitVec 3) :
    (byteK op m pd).toNat = 32 * op.toNat + 8 * m.toNat + pd.toNat := by
  have ho := opField_toNat (byteK op m pd)
  have hm := mField_toNat (byteK op m pd)
  have hpd := pdField_toNat (byteK op m pd)
  rw [opField_byteK] at ho
  rw [mField_byteK] at hm
  rw [pdField_byteK] at hpd
  omega

/-- The mask 0xE0 keeps the OP field and clears the rest. -/
theorem and_mask_eq_byteZ (b : Byte) : b &&& 0xE0 = byteZ (opField b) := by
  calc b &&& 0xE0 = (opField b ++ zeroField b) &&& (BitVec.allOnes 3 ++ 0#5) := by
        rw [opField_append_zeroField]; rfl
    _ = byteZ (opField b) := by rw [BitVec.and_append, BitVec.and_allOnes, BitVec.and_zero]; rfl

/-- INIT's match and mask select OP = 1 (R53). -/
theorem and_mask_eq_init_iff (b : Byte) : b &&& 0xE0 = 0x20 ↔ opField b = 1 := by
  rw [and_mask_eq_byteZ]
  constructor
  · intro h
    rw [← opField_byteZ (opField b), h]
    rfl
  · intro h
    rw [h]
    rfl

/-! ## Decoding undoes encoding -/

/-- What the ZERO check lets through is the operation asked for, and the byte is in format Z (R52). -/
theorem encode_of_decodeZ {c : Command} {op : BitVec 3} {i j : Instr} (hop : opField c.cmd = op)
    (he : encode i = some ⟨byteZ op, c.din⟩) (h : decodeZ c.cmd i = .instr j) : encode j = some c := by
  unfold decodeZ at h
  split at h
  case isTrue hz =>
    cases h
    rw [he, ← hop, byteZ_opField hz]
  case isFalse => cases h

@[simp] theorem decodeZ_byteZ (op : BitVec 3) (i : Instr) : decodeZ (byteZ op) i = .instr i :=
  if_pos (zeroField_byteZ op)

theorem decode_of_encode {c : Command} {i : Instr} (h : encode i = some c) : decode c = .instr i := by
  cases i with
  | init m pd key => cases h; simp [decode]
  | setiv iv => cases h; simp [decode]
  | encode x => cases h; simp [decode]
  | decode z => cases h; simp [decode]
  | _ => cases h

/-- What decodes is in the format of its operation, with the payload as operand. -/
theorem encode_of_decode {c : Command} {i : Instr} (h : decode c = .instr i) : encode i = some c := by
  unfold decode at h
  split at h
  case isTrue hop =>
    cases h
    rw [encode, ← hop, byteK_fields]
  split at h
  case isTrue hop => exact encode_of_decodeZ hop rfl h
  split at h
  case isTrue hop => exact encode_of_decodeZ hop rfl h
  split at h
  case isTrue hop => exact encode_of_decodeZ hop rfl h
  case isFalse => cases h

/-- R59: the decoder is the inverse of the encoder. -/
theorem decode_eq_instr_iff {c : Command} {i : Instr} : decode c = .instr i ↔ encode i = some c :=
  ⟨encode_of_decode, decode_of_encode⟩

theorem exists_encode_of_isCommand {i : Instr} (hi : i.isCommand = true) : ∃ c, encode i = some c := by
  cases i with
  | init | setiv | encode | decode => exact ⟨_, rfl⟩
  | _ => cases hi

/-- Settles O3: a host command has an encoding, and decoding is the inverse of encoding. -/
theorem decodeAndEncodeAgree : Obligations.DecodeAndEncodeAgree := by
  refine ⟨fun i hi => ?_, fun c i => encode_of_decode⟩
  obtain ⟨c, hc⟩ := exists_encode_of_isCommand hi
  exact ⟨c, hc, decode_of_encode hc⟩

/-- R58: a host command is well-formed whatever it carries. -/
theorem wf_of_isCommand {i : Instr} (hi : i.isCommand = true) : i.wf = true := by
  cases i with
  | init m pd key => exact (Laws.EncodedWf.init m pd key rfl).2
  | setiv iv => exact (Laws.EncodedWf.setiv iv rfl).2
  | encode x => exact (Laws.EncodedWf.encode x rfl).2
  | decode z => exact (Laws.EncodedWf.decode z rfl).2
  | _ => cases hi

/-- Settles O6: the decoder gives host commands only, and these are well-formed. -/
theorem noCommandIsInternal : Obligations.NoCommandIsInternal :=
  fun c i hd => ⟨isCommand_of_decode c i hd, wf_of_isCommand (isCommand_of_decode c i hd)⟩

/-! ## The bytes of the operations and the reserved bytes -/

/-- Settles O2: each byte is the command byte of its operation. -/
theorem sampleBytesDecode : Obligations.SampleBytesDecode := fun _ =>
  ⟨decode_of_encode rfl, decode_of_encode rfl, decode_of_encode rfl, decode_of_encode rfl, decode_of_encode rfl,
    decode_of_encode rfl, decode_of_encode rfl⟩

/-- R51, R53: OP = 1 selects INIT, whatever the other fields are. -/
theorem decode_init_iff (c : Command) : (∃ m pd, decode c = .instr (.init m pd c.din)) ↔ opField c.cmd = 1 := by
  constructor
  · rintro ⟨m, pd, h⟩
    have hc : ⟨byteK 1 m pd, c.din⟩ = c := Option.some.inj (encode_of_decode h)
    rw [← hc]
    exact opField_byteK 1 m pd
  · intro h
    exact ⟨mField c.cmd, pdField c.cmd, if_pos h⟩

/-- An operation on the payload of a command is selected by its one command byte (R52, R53). -/
theorem decode_iff_cmd {c : Command} {i : Instr} {b : Byte} (he : encode i = some ⟨b, c.din⟩) :
    decode c = .instr i ↔ c.cmd = b := by
  rw [decode_eq_instr_iff, he]
  constructor
  · intro h
    exact congrArg Command.cmd (Option.some.inj h).symm
  · rintro rfl
    rfl

theorem decode_setiv_iff (c : Command) : decode c = .instr (.setiv c.din) ↔ c.cmd = 0x40 := decode_iff_cmd rfl

theorem decode_encode_iff (c : Command) : decode c = .instr (.encode c.din) ↔ c.cmd = 0x60 := decode_iff_cmd rfl

theorem decode_decode_iff (c : Command) : decode c = .instr (.decode c.din) ↔ c.cmd = 0x80 := decode_iff_cmd rfl

/-- R53, R57: the reserved bytes are those that select no operation. -/
theorem decode_reserved_iff (c : Command) : (∃ why, decode c = .reserved why) ↔
    opField c.cmd ≠ 1 ∧ c.cmd ≠ 0x40 ∧ c.cmd ≠ 0x60 ∧ c.cmd ≠ 0x80 := by
  rw [Ne, Ne, Ne, Ne, ← decode_init_iff, ← decode_setiv_iff, ← decode_encode_iff, ← decode_decode_iff]
  constructor
  · rintro ⟨why, h⟩
    simp [h]
  · rintro ⟨hi, hs, he, hd⟩
    simpa only [hi, hs, he, hd, or_false] using decode_cases c

/-- Settles O5, operation by operation. -/
theorem decodingByMatchAndMask : Obligations.DecodingByMatchAndMask := by
  intro c
  have hmask : c.cmd &&& 0xFF = c.cmd := BitVec.and_allOnes
  rw [hmask, Ne, and_mask_eq_init_iff]
  refine ⟨(decode_init_iff c).symm, fun m pd key h => ?_, (decode_setiv_iff c).symm, (decode_encode_iff c).symm,
    (decode_decode_iff c).symm, (decode_reserved_iff c).symm⟩
  cases encode_of_decode h
  exact ⟨by rw [← mField_toNat, mField_byteK], by rw [← pdField_toNat, pdField_byteK], rfl⟩

/-- The ranges of R57. -/
theorem decode_reserved_iff_ranges (c : Command) : (∃ why, decode c = .reserved why) ↔
    c.cmd.toNat ≤ 0x1F ∨ (0x41 ≤ c.cmd.toNat ∧ c.cmd.toNat ≤ 0x5F) ∨ (0x61 ≤ c.cmd.toNat ∧ c.cmd.toNat ≤ 0x7F) ∨
      (0x81 ≤ c.cmd.toNat ∧ c.cmd.toNat ≤ 0x9F) ∨ 0xA0 ≤ c.cmd.toNat := by
  rw [decode_reserved_iff]
  simp only [Ne, ← BitVec.toNat_inj, opField_toNat, BitVec.reduceToNat]
  omega

/-- Settles O4: the ranges, the rejection of a reserved byte, and the count over all 256 bytes. -/
theorem reservedBytesAreRejected : Obligations.ReservedBytesAreRejected :=
  ⟨decode_reserved_iff_ranges,
    fun c why rest s h => step_reserved { s with pending := c :: rest } c rest why rfl h,
    by decide +kernel⟩

/-! ## Lines of the text syntax -/

/-- The number that section 7 of spec/30_encoding.md gives for INIT's byte is format K (R51). -/
theorem byteK_init_eq (m : BitVec 2) (pd : BitVec 3) : byteK 1 m pd = BitVec.ofNat 8 (0x20 + 8 * m.toNat + pd.toNat) := by
  have hm := m.isLt
  have hpd := pd.isLt
  apply BitVec.eq_of_toNat_eq
  rw [byteK_toNat, BitVec.toNat_ofNat]
  simp only [BitVec.reduceToNat]
  omega

/-- R64: an abbreviation assembles as the full line it stands for. -/
theorem expand_assemble (a : Line) : a.expand.assemble = a.assemble := by
  cases a <;> rfl

theorem decode_line_init (m : BitVec 2) (pd : BitVec 3) (key : List Byte) :
    decode (Line.init m pd key).assemble = .instr (.init m pd key) := by
  apply decode_of_encode
  rw [encode, byteK_init_eq]
  rfl

/-- Settles O55: the abbreviations through the full line, the other forms by their command bytes. -/
theorem linesAssembleToCommands : Obligations.LinesAssembleToCommands := by
  refine ⟨expand_assemble, decode_line_init, fun m key => ?_, fun key => ?_, fun x => ?_, fun cmd din => rfl⟩
  · rw [← expand_assemble]
    exact decode_line_init m 0 key
  · rw [← expand_assemble]
    exact decode_line_init 0 0 key
  · exact ⟨decode_of_encode rfl, decode_of_encode rfl, decode_of_encode rfl⟩

end Sys2Proof.Machine
end

section
/-! PROOF. The arithmetic primitives of spec/40_arith.md (O8 to O13). Each writes the result of its word function and nothing
else, so the statements are about those functions. PACK32 and UNPACK32 are told by the four bytes of a word: `byteOf` takes
them out of PACK32's word, and the number of a byte is a quotient of the word's. -/

namespace Sys2Proof.Machine

/-! ## The five operations -/

theorem exec_tou32 (x : Word) (s : State) : exec (.tou32 x) s = .next (s.withResWord (tou32 x)) := rfl

theorem exec_add32 (a b : Word) (s : State) : exec (.add32 a b) s = .next (s.withResWord (add32 a b)) := rfl

theorem exec_xor32 (a b : Word) (s : State) : exec (.xor32 a b) s = .next (s.withResWord (xor32 a b)) := rfl

theorem exec_pack32 (b0 b1 b2 b3 : Byte) (s : State) :
    exec (.pack32 b0 b1 b2 b3) s = .next (s.withResWord (pack32 b0 b1 b2 b3)) := rfl

theorem exec_unpack32 (w : Word) (s : State) : exec (.unpack32 w) s = .next (s.withResBytes (unpack32 w)) := rfl

/-! ## The bytes of a word -/

/-- The bits above a word's last byte are those of the word before that byte was put behind it. -/
theorem extractLsb'_append_byte {n : Nat} (x : BitVec n) (b : Byte) (i : Nat) :
    (x ++ b).extractLsb' (i + 8) 8 = x.extractLsb' i 8 :=
  BitVec.extractLsb'_append_eq_of_le (Nat.le_add_left 8 i)

theorem toNat_append_byte {n : Nat} (x : BitVec n) (b : Byte) : (x ++ b).toNat = x.toNat * 2 ^ 8 + b.toNat := by
  rw [BitVec.toNat_append, ← Nat.shiftLeft_add_eq_or_of_lt b.isLt, Nat.shiftLeft_eq]

/-- Byte k of PACK32's word is its argument k (R34, R73). -/
theorem byteOf_pack32 (b0 b1 b2 b3 : Byte) : byteOf (pack32 b0 b1 b2 b3) 0 = b0 ∧ byteOf (pack32 b0 b1 b2 b3) 1 = b1 ∧
    byteOf (pack32 b0 b1 b2 b3) 2 = b2 ∧ byteOf (pack32 b0 b1 b2 b3) 3 = b3 := by
  refine ⟨?_, ?_, ?_, ?_⟩
  · exact (extractLsb'_append_byte _ b3 16).trans ((extractLsb'_append_byte _ b2 8).trans BitVec.extractLsb'_append_eq_left)
  · exact (extractLsb'_append_byte _ b3 8).trans ((extractLsb'_append_byte _ b2 0).trans BitVec.extractLsb'_append_eq_right)
  · exact (extractLsb'_append_byte _ b3 0).trans BitVec.extractLsb'_append_eq_right
  · exact BitVec.extractLsb'_append_eq_right

theorem byteOf_toNat (w : Word) (k : Fin 4) : (byteOf w k).toNat = w.toNat / 2 ^ (24 - 8 * k.val) % 256 := by
  simp only [byteOf, BitVec.extractLsb'_toNat, Nat.shiftRight_eq_div_pow]

/-- R73: the number of PACK32's word, byte by byte. -/
theorem pack32_toNat (b0 b1 b2 b3 : Byte) :
    (pack32 b0 b1 b2 b3).toNat = b0.toNat * 2 ^ 24 + b1.toNat * 2 ^ 16 + b2.toNat * 2 ^ 8 + b3.toNat := by
  rw [pack32, toNat_append_byte, toNat_append_byte, toNat_append_byte]
  omega

/-- R74, R73: UNPACK32 undoes PACK32. -/
theorem unpack32_pack32 (b0 b1 b2 b3 : Byte) : unpack32 (pack32 b0 b1 b2 b3) = [b0, b1, b2, b3] := by
  obtain ⟨h0, h1, h2, h3⟩ := byteOf_pack32 b0 b1 b2 b3
  rw [unpack32, h0, h1, h2, h3]

/-! ## The statements -/

/-- Settles O13: UNPACK32 after PACK32, then PACK32 of the four bytes of a word. -/
theorem packAndUnpackAreInverse : Obligations.PackAndUnpackAreInverse :=
  ⟨unpack32_pack32, fun w => ⟨byteOf w 0, byteOf w 1, byteOf w 2, byteOf w 3, rfl, pack32_byteOf w⟩⟩

/-- Settles O8: the signed reading differs from the unsigned one by a multiple of 2^32. -/
theorem tou32IsTheUnsignedReading : Obligations.Tou32IsTheUnsignedReading := by
  intro x s
  refine ⟨tou32 x, exec_tou32 x s, rfl, ?_⟩
  have hx : (x.toNat : Int) < 2 ^ 32 := by exact_mod_cast x.isLt
  calc (x.toNat : Int) = x.toNat % 2 ^ 32 := (Int.emod_eq_of_lt (Int.natCast_nonneg _) hx).symm
    _ = x.toInt % 2 ^ 32 := by rw [BitVec.toInt_eq_toNat_bmod]; exact Int.bmod_emod.symm

/-- Settles O9: addition of words is the sum modulo 2^32. -/
theorem add32IsSumModulo : Obligations.Add32IsSumModulo :=
  fun a b s => ⟨add32 a b, exec_add32 a b s, BitVec.toNat_add a b⟩

/-- Settles O10: bit i of the result is the exclusive-or of the bits i. -/
theorem xor32IsBitwise : Obligations.Xor32IsBitwise := by
  intro a b s
  refine ⟨xor32 a b, exec_xor32 a b s, fun i _ => ?_⟩
  have hbit : (xor32 a b).getLsbD i = (a.getLsbD i ^^ b.getLsbD i) := BitVec.getLsbD_xor
  rw [hbit, Bool.xor_iff_ne]

/-- Settles O11, by the number of PACK32's word. -/
theorem pack32IsBigEndian : Obligations.Pack32IsBigEndian :=
  fun b0 b1 b2 b3 s => ⟨pack32 b0 b1 b2 b3, exec_pack32 b0 b1 b2 b3 s, pack32_toNat b0 b1 b2 b3⟩

/-- Settles O12, by the number of each byte of the word. -/
theorem unpack32IsBigEndian : Obligations.Unpack32IsBigEndian := by
  intro w s
  refine ⟨byteOf w 0, byteOf w 1, byteOf w 2, byteOf w 3, exec_unpack32 w s, byteOf_toNat w 0, byteOf_toNat w 1,
    byteOf_toNat w 2, ?_⟩
  simpa using byteOf_toNat w 3

end Sys2Proof.Machine
end

section
/-! PROOF. The key schedule of spec/41_keysched.md (O20 to O22). KSCHED's nested loops are one run of 521 equal steps
(`schedStep`), step n being encryption n and its store, and every chain of the index form is that run. A P slot or an S-box
entry is written by one step alone, so after the run it holds half of that step's output. The key enters through phase 1's
key words, which are made of the first 72 bytes of the cyclic stream. -/

namespace Sys2Proof.Machine

/-! ## Table entries -/

/-- Tables are told by their entries. -/
theorem Tables.ext_of_reads {t u : Tables} (hp : ∀ i, t.readP i = u.readP i) (hs : ∀ b e, t.readS b e = u.readS b e) :
    t = u := by
  have hP : t.p = u.p := Vector.ext fun i hi => hp ⟨i, hi⟩
  have hS : t.s = u.s := Vector.ext fun b hb => Vector.ext fun e he => hs ⟨b, hb⟩ ⟨e, he⟩
  exact congrArg₂ Tables.mk hP hS

theorem Tables.readP_writeP (t : Tables) (i j : Fin 18) (v : Word) :
    (t.writeP i v).readP j = if i = j then v else t.readP j := by
  split
  next h => rw [← h, readP_writeP_same]
  next h => exact readP_writeP_other t i j v h

theorem Tables.readS_writeS (t : Tables) (b c : Fin 4) (e d : Fin 256) (v : Word) :
    (t.writeS b e v).readS c d = if b = c ∧ e = d then v else t.readS c d := by
  split
  next h => rw [← h.1, ← h.2, readS_writeS_same]
  next h => exact readS_writeS_other t b c e d v (not_and_or.mp h)

@[simp] theorem Tables.readP_writeS (t : Tables) (b : Fin 4) (e : Fin 256) (v : Word) (i : Fin 18) :
    (t.writeS b e v).readP i = t.readP i := rfl

/-- Half k of a block: the left word goes to an even place, the right word to an odd one (R83, R84). -/
def Block.half (o : Block) (k : Nat) : Word := if k % 2 = 0 then o.l else o.r

theorem Block.half_add (o : Block) (m k : Nat) : o.half (2 * m + k) = o.half k := by
  simp only [Block.half, Nat.mul_add_mod]

/-- R86: slot i of P takes its word from encryption i / 2. -/
theorem readP_storeOutput (n : Nat) (o : Block) (t : Tables) (i : Fin 18) :
    (storeOutput n o t).readP i = if n = i.val / 2 then o.half i.val else t.readP i := by
  unfold storeOutput
  split
  · simp only [Tables.readP, Vector.getElem_setIfInBounds, Block.half]
    grind
  · rw [if_neg (by omega)]
    rfl

/-- R86: entry e of S-box b takes its word from encryption 9 + 128b + e / 2. -/
theorem readS_storeOutput (n : Nat) (o : Block) (t : Tables) (b : Fin 4) (e : Fin 256) :
    (storeOutput n o t).readS b e = if n = 9 + 128 * b.val + e.val / 2 then o.half e.val else t.readS b e := by
  unfold storeOutput
  split
  · rw [if_neg (by omega)]
    rfl
  · simp only [Tables.readS, Vector.getElem_mapIdx, Block.half]
    grind

/-- The two writes of a pass of phase 2 are the store of its encryption (R83, R86). -/
theorem writeP_writeP_eq_storeOutput (t : Tables) (j : Fin 9) (o : Block) :
    (t.writeP ⟨2 * j.val, by omega⟩ o.l).writeP ⟨2 * j.val + 1, by omega⟩ o.r = storeOutput j.val o t := by
  refine Tables.ext_of_reads (fun i => ?_) fun b e => ?_
  · simp only [Tables.readP_writeP, readP_storeOutput, Block.half, Fin.ext_iff]
    grind
  · rw [readS_storeOutput, if_neg (by omega)]
    rfl

/-- The two writes of a pass of phase 3 are the store of its encryption (R84, R86). -/
theorem writeS_writeS_eq_storeOutput (t : Tables) (b : Fin 4) (m : Fin 128) (o : Block) :
    (t.writeS b ⟨2 * m.val, by omega⟩ o.l).writeS b ⟨2 * m.val + 1, by omega⟩ o.r =
      storeOutput (9 + 128 * b.val + m.val) o t := by
  refine Tables.ext_of_reads (fun i => ?_) fun c e => ?_
  · rw [readP_storeOutput, if_neg (by omega)]
    rfl
  · simp only [Tables.readS_writeS, readS_storeOutput, Block.half, Fin.ext_iff]
    grind

/-! ## The schedule as one run -/

/-- Encryption n of the schedule and its store (R86). -/
def schedStep (n : Nat) (c : Sched) : Sched :=
  ⟨storeOutput n (encblk c.tables c.lr) c.tables, encblk c.tables c.lr⟩

/-- The schedule after its first n encryptions. -/
def schedRun (c : Sched) : Nat → Sched
  | 0 => c
  | n + 1 => schedStep n (schedRun c n)

theorem schedStepP_eq (c : Sched) (j : Fin 9) : schedStepP c j = schedStep j.val c := by
  simp only [schedStepP, schedStep, writeP_writeP_eq_storeOutput]

theorem schedStepS_eq (b : Fin 4) (c : Sched) (m : Fin 128) : schedStepS b c m = schedStep (9 + 128 * b.val + m.val) c := by
  simp only [schedStepS, schedStep, writeS_writeS_eq_storeOutput]

/-- A loop over 0 to k - 1 whose pass i leads from g i to g (i + 1) leads from g 0 to g k. -/
theorem foldl_finRange_chain {α : Type} {k : Nat} (f : α → Fin k → α) (g : Nat → α)
    (hf : ∀ i : Fin k, f (g i.val) i = g (i.val + 1)) : (List.finRange k).foldl f (g 0) = g k := by
  induction k with
  | zero => simp
  | succ k ih =>
    rw [List.finRange_succ_last, List.foldl_concat, List.foldl_map, ih _ fun i => hf i.castSucc]
    exact hf (Fin.last k)

/-- Phase 2 is encryptions 0 to 8. -/
theorem schedPhaseP_eq (c : Sched) : schedPhaseP c = schedRun c 9 :=
  foldl_finRange_chain schedStepP (schedRun c) fun j => schedStepP_eq _ j

/-- Phase 3 fills S-box b with encryptions 9 + 128b to 136 + 128b. -/
theorem schedPhaseBox_eq (c : Sched) (b : Fin 4) :
    schedPhaseBox (schedRun c (9 + 128 * b.val)) b = schedRun c (9 + 128 * (b.val + 1)) :=
  foldl_finRange_chain (schedStepS b) (fun m => schedRun c (9 + 128 * b.val + m)) fun m => schedStepS_eq b _ m

/-- Phase 3 is encryptions 9 to 520. -/
theorem schedPhaseS_eq (c : Sched) : schedPhaseS (schedRun c 9) = schedRun c 521 :=
  foldl_finRange_chain schedPhaseBox (fun b => schedRun c (9 + 128 * b)) (schedPhaseBox_eq c)

/-! ## The start of the run -/

/-- Phase 1 in its first n slots. -/
def mixSlotsBelow (key : List Byte) (t : Tables) (n : Nat) : Tables :=
  { t with p := Vector.ofFn fun i : Fin 18 => if i.val < n then xor32 (t.readP i) (keyWord key i.val) else t.readP i }

theorem readP_mixSlotsBelow (key : List Byte) (t : Tables) (n : Nat) (i : Fin 18) : (mixSlotsBelow key t n).readP i =
    if i.val < n then xor32 (t.readP i) (keyWord key i.val) else t.readP i := by
  simp [mixSlotsBelow, Tables.readP]

@[simp] theorem mixSlotsBelow_s (key : List Byte) (t : Tables) (n : Nat) : (mixSlotsBelow key t n).s = t.s := by
  simp only [mixSlotsBelow]

@[simp] theorem readS_mixSlotsBelow (key : List Byte) (t : Tables) (n : Nat) (b : Fin 4) (e : Fin 256) :
    (mixSlotsBelow key t n).readS b e = t.readS b e := by
  simp only [Tables.readS, mixSlotsBelow_s]

theorem schedMixSlot_mixSlotsBelow (key : List Byte) (t : Tables) (i : Fin 18) :
    schedMixSlot key (mixSlotsBelow key t i.val) i = mixSlotsBelow key t (i.val + 1) := by
  refine Tables.ext_of_reads (fun j => ?_) fun b e => by simp [schedMixSlot]
  simp only [schedMixSlot, Tables.readP_writeP, readP_mixSlotsBelow, Fin.ext_iff]
  grind

theorem schedMixKey_eq (key : List Byte) (t : Tables) : schedMixKey key t = mixSlotsBelow key t 18 := by
  have hstart : mixSlotsBelow key t 0 = t :=
    Tables.ext_of_reads (fun i => by simp [readP_mixSlotsBelow]) fun b e => by simp
  have hmix := foldl_finRange_chain (schedMixSlot key) (mixSlotsBelow key t) (schedMixSlot_mixSlotsBelow key t)
  rwa [hstart] at hmix

/-- Phase 1 xors each slot's key word into it (R82). -/
theorem readP_schedMixKey (key : List Byte) (t : Tables) (i : Fin 18) :
    (schedMixKey key t).readP i = xor32 (t.readP i) (keyWord key i.val) := by
  rw [schedMixKey_eq, readP_mixSlotsBelow, if_pos i.isLt]

@[simp] theorem schedMixKey_s (key : List Byte) (t : Tables) : (schedMixKey key t).s = t.s := by
  rw [schedMixKey_eq, mixSlotsBelow_s]

/-- What encryption 0 finds: the tables phase 1 leaves, and the block (0, 0) (R82, R83). -/
def schedStart (key : List Byte) : Sched := ⟨schedMixKey key schedConstants, ⟨0, 0⟩⟩

theorem ksched_eq_schedRun {key : List Byte} (hkey : key ≠ []) : ksched key = schedRun (schedStart key) 521 := by
  obtain ⟨b, rest, rfl⟩ := List.exists_cons_of_ne_nil hkey
  rw [← schedPhaseS_eq, ← schedPhaseP_eq]
  unfold ksched
  rfl

theorem exec_ksched {key : List Byte} (hkey : key ≠ []) (s : State) : exec (.ksched key) s = .next (runKsched key s) := by
  obtain ⟨b, rest, rfl⟩ := List.exists_cons_of_ne_nil hkey
  rfl

/-! ## The chain by index -/

theorem scheduleChain_schedRun (key : List Byte) : ScheduleChain key (fun n => (schedRun (schedStart key) n).tables)
    (fun n => (schedRun (schedStart key) n).lr) where
  first_p := readP_schedMixKey key schedConstants
  first_s := schedMixKey_s key schedConstants
  first_block := rfl
  encrypt _ _ := rfl
  store _ _ := rfl

/-- The index form determines the run. -/
theorem ScheduleChain.eq_schedRun {key : List Byte} {tab : Nat → Tables} {blk : Nat → Block} (h : ScheduleChain key tab blk)
    (n : Nat) (hn : n ≤ 521) : schedRun (schedStart key) n = ⟨tab n, blk n⟩ := by
  induction n with
  | zero =>
    have htab : schedMixKey key schedConstants = tab 0 :=
      Tables.ext_of_reads (fun i => (readP_schedMixKey key schedConstants i).trans (h.first_p i).symm) fun b e => by
        simp only [Tables.readS, schedMixKey_s, h.first_s, schedConstants]
    rw [h.first_block, ← htab]
    rfl
  | succ n ih => rw [h.store n hn, h.encrypt n hn, schedRun, ih (by omega), schedStep]

/-- A word that encryption w alone writes holds, once that encryption is done, what it wrote. -/
theorem schedRun_read {read : Tables → Word} {out : Block → Word} {w : Nat}
    (hread : ∀ n o t, read (storeOutput n o t) = if n = w then out o else read t) (c : Sched) (n : Nat) (hn : w < n) :
    read (schedRun c n).tables = out (schedRun c (w + 1)).lr := by
  induction n, hn using Nat.le_induction with
  | base => exact (hread w _ _).trans (if_pos rfl)
  | succ n hn ih => exact ((hread n _ _).trans (if_neg (by omega))).trans ih

theorem readP_ksched {key : List Byte} (hkey : key ≠ []) (i : Fin 18) :
    (ksched key).tables.readP i = (schedRun (schedStart key) (i.val / 2 + 1)).lr.half i.val := by
  rw [ksched_eq_schedRun hkey]
  exact schedRun_read (read := fun t => t.readP i) (fun n o t => readP_storeOutput n o t i) _ 521 (by omega)

theorem readS_ksched {key : List Byte} (hkey : key ≠ []) (b : Fin 4) (e : Fin 256) :
    (ksched key).tables.readS b e = (schedRun (schedStart key) (9 + 128 * b.val + e.val / 2 + 1)).lr.half e.val := by
  rw [ksched_eq_schedRun hkey]
  exact schedRun_read (read := fun t => t.readS b e) (fun n o t => readS_storeOutput n o t b e) _ 521 (by omega)

/-- Settles O20: the chain is the run of the 521 steps, and KSCHED ends where the run does. -/
theorem kschedIsTheChain : Obligations.KschedIsTheChain := by
  intro key s hkey
  refine ⟨_, _, scheduleChain_schedRun key, ?_⟩
  rw [exec_ksched hkey, ← ksched_eq_schedRun hkey]
  rfl

/-- Settles O21: a chain is the run, in which each place is written by one encryption. -/
theorem kschedStoresEveryOutput : Obligations.KschedStoresEveryOutput := by
  intro key tab blk s hkey hchain
  have hp (n : Fin 9) (k : Nat) (hk : k < 2) : (runKsched key s).p[2 * n.val + k] = (blk (n.val + 1)).half k := by
    have h := readP_ksched hkey ⟨2 * n.val + k, by omega⟩
    rw [show (2 * n.val + k) / 2 = n.val by omega, hchain.eq_schedRun _ (by omega)] at h
    rw [← Block.half_add _ n.val k]
    exact h
  have hs (b : Fin 4) (m : Fin 128) (k : Nat) (hk : k < 2) :
      ((runKsched key s).s[b.val])[2 * m.val + k] = (blk (10 + 128 * b.val + m.val)).half k := by
    have h := readS_ksched hkey b ⟨2 * m.val + k, by omega⟩
    rw [show 9 + 128 * b.val + (2 * m.val + k) / 2 + 1 = 10 + 128 * b.val + m.val by omega,
      hchain.eq_schedRun _ (by omega)] at h
    rw [← Block.half_add _ m.val k]
    exact h
  exact ⟨runKsched key s, exec_ksched hkey s, fun n => ⟨hp n 0 (by omega), hp n 1 (by omega)⟩,
    fun b m => ⟨hs b m 0 (by omega), hs b m 1 (by omega)⟩⟩

/-! ## The key stream -/

/-- Two keys have the same 72-byte cyclic stream (R33, R85). -/
def SameStream (k k' : List Byte) : Prop := ∀ j, j < 72 → keyByte k j = keyByte k' j

/-- Phase 1 reads 72 bytes of the stream, so the start of the run does too (R82, R85). -/
theorem SameStream.schedStart_eq {k k' : List Byte} (h : SameStream k k') : schedStart k = schedStart k' := by
  have hword (i : Fin 18) : keyWord k i.val = keyWord k' i.val := by
    simp only [keyWord, h (4 * i.val) (by omega), h (4 * i.val + 1) (by omega), h (4 * i.val + 2) (by omega),
      h (4 * i.val + 3) (by omega)]
  have htab : schedMixKey k schedConstants = schedMixKey k' schedConstants :=
    Tables.ext_of_reads (fun i => by rw [readP_schedMixKey, readP_schedMixKey, hword]) fun b e => by
      simp only [Tables.readS, schedMixKey_s]
  rw [schedStart, htab, ← schedStart]

theorem SameStream.exec_alike {k k' : List Byte} (h : SameStream k k') (hk : k ≠ []) (hk' : k' ≠ []) (s : State) :
    ∃ t, exec (.ksched k) s = .next t ∧ exec (.ksched k') s = .next t := by
  refine ⟨runKsched k s, exec_ksched hk s, ?_⟩
  rw [exec_ksched hk' s, runKsched, runKsched, ksched_eq_schedRun hk, ksched_eq_schedRun hk', h.schedStart_eq]

/-- A list repeated n times is its cyclic stream, cut to n times its length. -/
theorem getElem?_flatten_replicate {α : Type} (l : List α) (n i : Nat) (hi : i < n * l.length) :
    (List.replicate n l).flatten[i]? = l[i % l.length]? := by
  induction n generalizing i with
  | zero => omega
  | succ n ih =>
    rw [List.replicate_succ, List.flatten_cons]
    obtain hlt | hge := Nat.lt_or_ge i l.length
    · rw [List.getElem?_append_left hlt, Nat.mod_eq_of_lt hlt]
    · rw [List.getElem?_append_right hge, ih _ (by rw [Nat.succ_mul] at hi; omega), ← Nat.mod_eq_sub_mod hge]

/-- R85 (a). -/
theorem sameStream_repeat {k : List Byte} (hk : k ≠ []) {n : Nat} (hn : 0 < n) :
    SameStream k (List.replicate n k).flatten := by
  intro j _
  have hlen : (List.replicate n k).flatten.length = n * k.length := by simp
  have hpos : 0 < n * k.length := Nat.mul_pos hn (List.length_pos_iff.mpr hk)
  rw [keyByte, keyByte, hlen, List.getD_eq_getElem?_getD, List.getD_eq_getElem?_getD,
    getElem?_flatten_replicate k n _ (Nat.mod_lt _ hpos), Nat.mod_mul_left_mod]

/-- R85 (b). -/
theorem sameStream_take {k : List Byte} (hk : 72 ≤ k.length) : SameStream k (k.take 72) := by
  intro j hj
  have hlen : (k.take 72).length = 72 := List.length_take_of_le hk
  rw [keyByte, keyByte, hlen, Nat.mod_eq_of_lt hj, Nat.mod_eq_of_lt (hj.trans_le hk), List.getD_eq_getElem?_getD,
    List.getD_eq_getElem?_getD, List.getElem?_take_of_lt hj]

/-- Settles O22: the three cases have the same stream, and the tables after KSCHED are a function of the key. -/
theorem kschedReadsOnlyTheKeyStream : Obligations.KschedReadsOnlyTheKeyStream := by
  refine ⟨fun k k' s hk hk' (h : SameStream k k') => h.exec_alike hk hk' s, fun k n s hk hn => ?_, fun k s hk => ?_,
    fun k s s' hk => ⟨_, _, exec_ksched hk s, exec_ksched hk s', rfl, rfl⟩⟩
  · exact (sameStream_repeat hk hn).exec_alike hk (by simpa [hk] using hn.ne') s
  · have hne : k ≠ [] := by rintro rfl; simp at hk
    exact (sameStream_take hk).exec_alike hne (by simp [hne]) s

end Sys2Proof.Machine
end

section
/-! PROOF. The domain of the operations (O46). A host command is well-formed and always responds; KSCHED and the mode
operations test their own domain; each other internal operation is well-formed and is one update of the state. -/

namespace Sys2Proof.Machine

/-- The operation completes in the state when its operands are in its domain, and else refuses by name (R80, R125, U12). -/
def CompletesInDomain (i : Instr) (s : State) : Prop :=
  (i.wf = true ↔ ∃ t, exec i s = .next t) ∧
    (i.wf = false → exec i s = .refused .emptyKey ∨ exec i s = .refused .partialBlock)

theorem completesInDomain_of_next {i : Instr} {s t : State} (hwf : i.wf = true) (h : exec i s = .next t) :
    CompletesInDomain i s :=
  ⟨iff_of_true hwf ⟨t, h⟩, fun hn => absurd hwf (by simp [hn])⟩

theorem completesInDomain_of_refused {i : Instr} {s : State} {r : Refusal} (hwf : i.wf = false)
    (h : exec i s = .refused r) (hr : r = .emptyKey ∨ r = .partialBlock) : CompletesInDomain i s :=
  ⟨iff_of_false (by simp [hwf]) (by simp [h]), fun _ => by
    obtain rfl | rfl := hr
    · exact .inl h
    · exact .inr h⟩

theorem completesInDomain_of_onWholeBlocks {i : Instr} {x : List Byte} {s u : State} (hwf : i.wf = wholeBlocks x)
    (h : exec i s = onWholeBlocks x u) : CompletesInDomain i s := by
  by_cases hx : x.length % 8 = 0
  · exact completesInDomain_of_next (hwf.trans ((wholeBlocks_iff x).mpr hx)) (h.trans (onWholeBlocks_of_whole x u hx))
  · exact completesInDomain_of_refused (hwf.trans (by simpa [wholeBlocks] using hx))
      (h.trans (onWholeBlocks_of_partial x u hx)) (.inr rfl)

theorem completesInDomain_ksched (key : List Byte) (s : State) : CompletesInDomain (.ksched key) s := by
  cases key with
  | nil => exact completesInDomain_of_refused rfl rfl (.inl rfl)
  | cons b rest => exact completesInDomain_of_next rfl (exec_ksched (List.cons_ne_nil b rest) s)

theorem completesInDomain_of_isCommand {i : Instr} (hi : i.isCommand = true) (s : State) : CompletesInDomain i s := by
  obtain ⟨t, -, ht, -⟩ := exec_responds_of_isCommand i s hi
  exact completesInDomain_of_next (wf_of_isCommand hi) ht

/-- Settles O46, operation by operation. -/
theorem operationsCompleteInTheirDomain : Obligations.OperationsCompleteInTheirDomain := by
  intro i s
  cases i with
  | init | setiv | encode | decode => exact completesInDomain_of_isCommand rfl s
  | ksched key => exact completesInDomain_ksched key s
  | ecbEnc x | ecbDec x | cbcEnc x | cbcDec x => exact completesInDomain_of_onWholeBlocks rfl rfl
  | _ => exact completesInDomain_of_next rfl rfl

end Sys2Proof.Machine
end

section
/-! PROOF. The initial constants of spec/42_init_constants.md (O18, O19). The words are the base-2^32 digits of the number they
spell; by Machin's series that number is the floor of the scaled fractional part of pi, and cutting digits off a number
commutes with the floor. -/

namespace Sys2Proof.Machine

/-- Settles O18: the table is fixed data, which the kernel evaluates. -/
theorem initialConstantsMeetTheirChecks : Obligations.InitialConstantsMeetTheirChecks := by
  unfold Obligations.InitialConstantsMeetTheirChecks
  decide +kernel

/-! ## The words as digits of one number -/

/-- The number a list of words spells, the first word on top. -/
def wordsNumber (words : List Word) : Nat := words.foldl (fun n w => n * 2 ^ 32 + w.toNat) 0

theorem initNumber_eq : initNumber = wordsNumber initWords := by
  unfold initNumber; rfl

theorem wordsNumber_concat (words : List Word) (w : Word) : wordsNumber (words ++ [w]) = wordsNumber words * 2 ^ 32 + w.toNat :=
  List.foldl_concat ..

theorem wordsNumber_concat_div (words : List Word) (w : Word) : wordsNumber (words ++ [w]) / 2 ^ 32 = wordsNumber words := by
  have := w.isLt
  rw [wordsNumber_concat]
  omega

/-- Each word is a digit: what is left when the words after it are cut off, and the words before it are reduced away. -/
theorem wordsNumber_digit {words : List Word} {m : Nat} {w : Word} (h : words[m]? = some w) :
    wordsNumber words / 2 ^ (32 * (words.length - (m + 1))) % 2 ^ 32 = w.toNat := by
  induction words using List.reverseRecOn with
  | nil => simp at h
  | append_singleton words last ih =>
    obtain hm | hm := Nat.lt_or_ge m words.length
    · have hlen : 32 * ((words ++ [last]).length - (m + 1)) = 32 + 32 * (words.length - (m + 1)) := by
        rw [List.length_append, List.length_singleton]; omega
      rw [List.getElem?_append_left hm] at h
      rw [hlen, pow_add, ← Nat.div_div_eq_div_mul, wordsNumber_concat_div, ih h]
    · obtain ⟨hlast, rfl⟩ : m - words.length = 0 ∧ last = w := by
        simpa [List.getElem?_append_right hm, List.getElem?_singleton] using h
      have hlen : 32 * ((words ++ [last]).length - (m + 1)) = 0 := by
        rw [List.length_append, List.length_singleton]; omega
      have := last.isLt
      rw [hlen, pow_zero, Nat.div_one, wordsNumber_concat]
      omega

/-- Words that spell the floor of a real number, scaled to their length, are its binary digits. -/
theorem wordsNumber_digit_of_floor {words : List Word} {x : Real}
    (hx : ⌊x * 2 ^ (32 * words.length)⌋ = wordsNumber words) {m : Nat} {w : Word} (h : words[m]? = some w) :
    (w.toNat : Int) = ⌊x * 2 ^ (32 * (m + 1))⌋ % 2 ^ 32 := by
  have hm : m < words.length := (List.getElem?_eq_some_iff.mp h).1
  have hscale : x * 2 ^ (32 * (m + 1)) =
      x * 2 ^ (32 * words.length) / ((2 ^ (32 * (words.length - (m + 1))) : Nat) : Real) := by
    have hexp : 32 * words.length = 32 * (m + 1) + 32 * (words.length - (m + 1)) := by omega
    rw [eq_div_iff (by positivity), hexp, pow_add]
    push_cast
    ring
  rw [hscale, Int.floor_div_natCast, hx, ← wordsNumber_digit h]
  norm_cast

/-! ## The digits of pi -/

theorem initWords_length : initWords.length = 1042 := by
  simp [initWords]

theorem fract_pi : Int.fract Real.pi = Real.pi - 3 := by
  have hlo := Real.pi_gt_three
  have hhi := Real.pi_lt_four
  exact Int.fract_eq_iff.mpr ⟨by linarith, by linarith, 3, by norm_num⟩

theorem floor_fract_pi : ⌊Int.fract Real.pi * 2 ^ (32 * initWords.length)⌋ = wordsNumber initWords := by
  rw [fract_pi, initWords_length, ← initNumber_eq]
  exact Int.floor_eq_iff.mpr initNumber_pi

/-- Settles O19: the words spell the floor of the scaled fractional part of pi (`initNumber_pi`). -/
theorem initialConstantsAreTheDigitsOfPi : Obligations.InitialConstantsAreTheDigitsOfPi :=
  ⟨initWords_length, fun _ _ => wordsNumber_digit_of_floor floor_fract_pi⟩

end Sys2Proof.Machine
end

section
/-! PROOF. The Feistel engine of spec/43_feistel.md (O14 to O17). ENCBLK and DECBLK are one operation (`feistelAlong`) that
takes the 18 subkeys in two opposite orders, so one description of its rounds serves both. Each is the other's inverse
because a round takes the round before it away from under the final step (`feistelRound_feistelFinish_feistelRound`). -/

namespace Sys2Proof.Machine

/-! ## F -/

theorem exec_f (x : Word) (s : State) : exec (.f x) s = .next (s.withResWord (roundF s.tables x)) := rfl

/-- The indices of F's four entries are the base-256 digits of its argument. -/
theorem entryOf_byteOf_of_digits {x : Word} {a b c d : Fin 256}
    (h : x.toNat = a.val * 2 ^ 24 + b.val * 2 ^ 16 + c.val * 2 ^ 8 + d.val) :
    entryOf (byteOf x 0) = a ∧ entryOf (byteOf x 1) = b ∧ entryOf (byteOf x 2) = c ∧ entryOf (byteOf x 3) = d := by
  have h0 : (entryOf (byteOf x 0)).val = x.toNat / 2 ^ 24 % 256 := byteOf_toNat x 0
  have h1 : (entryOf (byteOf x 1)).val = x.toNat / 2 ^ 16 % 256 := byteOf_toNat x 1
  have h2 : (entryOf (byteOf x 2)).val = x.toNat / 2 ^ 8 % 256 := byteOf_toNat x 2
  have h3 : (entryOf (byteOf x 3)).val = x.toNat / 2 ^ 0 % 256 := byteOf_toNat x 3
  refine ⟨Fin.ext ?_, Fin.ext ?_, Fin.ext ?_, Fin.ext ?_⟩ <;> omega

/-- Settles O14: the four entries are those of the digits, and a sum of words is the sum modulo 2^32. -/
theorem fCombinesFourEntries : Obligations.FCombinesFourEntries := by
  intro x s a b c d hx
  obtain ⟨ha, hb, hc, hd⟩ := entryOf_byteOf_of_digits hx
  refine ⟨roundF s.tables x, exec_f x s, ?_⟩
  rw [roundF, ha, hb, hc, hd]
  simp only [add32, xor32, tou32, BitVec.toNat_add, BitVec.toNat_xor]
  rfl

/-! ## The block operation along an order of the subkeys -/

/-- The block after n rounds that take their subkeys in the order `slot`. -/
def roundsAlong (t : Tables) (slot : Nat → Fin 18) (b : Block) (n : Nat) : Block :=
  feistelRounds t b ((List.range n).map slot)

/-- What ENCBLK and DECBLK have in common (R96, R97): sixteen rounds, then the last two subkeys. -/
def feistelAlong (t : Tables) (slot : Nat → Fin 18) (b : Block) : Block :=
  feistelFinish t (roundsAlong t slot b 16) (slot 16) (slot 17)

theorem roundsAlong_zero (t : Tables) (slot : Nat → Fin 18) (b : Block) : roundsAlong t slot b 0 = b := rfl

theorem roundsAlong_succ (t : Tables) (slot : Nat → Fin 18) (b : Block) (n : Nat) :
    roundsAlong t slot b (n + 1) = feistelRound t (roundsAlong t slot b n) (slot n) := by
  simp [roundsAlong, feistelRounds, List.range_succ]

/-- The subkeys of ENCBLK in the order of their use: P[0] to P[17] (R96). -/
def encSlot (n : Nat) : Fin 18 := Fin.ofNat 18 n

/-- The subkeys of DECBLK in the order of their use: P[17] down to P[0] (R97). -/
def decSlot (n : Nat) : Fin 18 := Fin.ofNat 18 (17 - n)

theorem encblk_eq_feistelAlong (t : Tables) (b : Block) : encblk t b = feistelAlong t encSlot b := by
  unfold encblk
  rfl

theorem decblk_eq_feistelAlong (t : Tables) (b : Block) : decblk t b = feistelAlong t decSlot b := by
  unfold decblk
  rfl

theorem readP_encSlot (t : Tables) {n : Nat} (hn : n < 18) : t.readP (encSlot n) = t.p[n] := by
  simp [Tables.readP, encSlot, Nat.mod_eq_of_lt hn]

theorem readP_decSlot (t : Tables) (n : Nat) : t.readP (decSlot n) = t.p[17 - n] := by
  have hn : 17 - n < 18 := by omega
  simp [Tables.readP, decSlot, Nat.mod_eq_of_lt hn]

theorem feistelRound_eq (t : Tables) (b : Block) (i : Fin 18) :
    feistelRound t b i = ⟨b.r ^^^ roundF t (b.l ^^^ t.readP i), b.l ^^^ t.readP i⟩ := rfl

theorem feistelFinish_eq (t : Tables) (b : Block) (j k : Fin 18) :
    feistelFinish t b j k = ⟨b.r ^^^ t.readP k, b.l ^^^ t.readP j⟩ := rfl

/-! ## The sixteen rounds, half by half -/

theorem exec_encblk (l r : Word) (s : State) : exec (.encblk l r) s = .next (s.withLR (encblk s.tables ⟨l, r⟩)) := rfl

theorem exec_decblk (l r : Word) (s : State) : exec (.decblk l r) s = .next (s.withLR (decblk s.tables ⟨l, r⟩)) := rfl

/-- The halves after each round, from the block given to the block answered. -/
theorem feistelAlong_halves (t : Tables) (slot : Nat → Fin 18) (l r : Word) : ∃ L R : Nat → Word, L 0 = l ∧ R 0 = r ∧
    (∀ i, L (i + 1) = R i ^^^ roundF t (L i ^^^ t.readP (slot i)) ∧ R (i + 1) = L i ^^^ t.readP (slot i)) ∧
    feistelAlong t slot ⟨l, r⟩ = ⟨R 16 ^^^ t.readP (slot 17), L 16 ^^^ t.readP (slot 16)⟩ := by
  refine ⟨fun n => (roundsAlong t slot ⟨l, r⟩ n).l, fun n => (roundsAlong t slot ⟨l, r⟩ n).r, rfl, rfl, fun i => ?_, rfl⟩
  simp only [roundsAlong_succ, feistelRound_eq, and_self]

/-- Settles O15: ENCBLK's halves, with the subkeys P[0] to P[17]. -/
theorem encblkIsSixteenRounds : Obligations.EncblkIsSixteenRounds := by
  intro l r s
  obtain ⟨L, R, hl, hr, hround, hout⟩ := feistelAlong_halves s.tables encSlot l r
  refine ⟨L, R, hl, hr, fun i => ?_, (encblk_eq_feistelAlong s.tables ⟨l, r⟩).trans hout, exec_encblk l r s⟩
  have hkey : s.tables.readP (encSlot i.val) = s.p[i.val] := readP_encSlot s.tables (by omega)
  simpa only [hkey] using hround i.val

/-- Settles O16: DECBLK's halves, with the subkeys P[17] down to P[0]. -/
theorem decblkIsSixteenRounds : Obligations.DecblkIsSixteenRounds := by
  intro l r s
  obtain ⟨L, R, hl, hr, hround, hout⟩ := feistelAlong_halves s.tables decSlot l r
  refine ⟨L, R, hl, hr, fun i => ?_, (decblk_eq_feistelAlong s.tables ⟨l, r⟩).trans hout, exec_decblk l r s⟩
  have hkey : s.tables.readP (decSlot i.val) = s.p[17 - i.val] := readP_decSlot s.tables i.val
  simpa only [hkey] using hround i.val

/-! ## One operation undoes the other -/

theorem feistelFinish_feistelFinish (t : Tables) (b : Block) (j k : Fin 18) :
    feistelFinish t (feistelFinish t b j k) k j = b := by
  simp only [feistelFinish_eq, xor_cancel_right]

theorem xor_cancel_across (x y f : Word) : x ^^^ f ^^^ y ^^^ f = x ^^^ y := by
  rw [BitVec.xor_assoc x, BitVec.xor_comm f, ← BitVec.xor_assoc, xor_cancel_right]

/-- A round with the subkey the final step put into l takes away the round before that step: F meets the argument it had
there and cancels, and the final step moves one subkey back. -/
theorem feistelRound_feistelFinish_feistelRound (t : Tables) (b : Block) (i j k : Fin 18) :
    feistelRound t (feistelFinish t (feistelRound t b i) j k) k = feistelFinish t b i j := by
  simp only [feistelRound_eq, feistelFinish_eq, xor_cancel_right, xor_cancel_across]

/-- After m rounds in the opposite order, the last m rounds of the operation are gone. -/
theorem roundsAlong_feistelAlong {t : Tables} {slot slot' : Nat → Fin 18} (h : ∀ i m, i + m = 17 → slot' m = slot i)
    (b : Block) (m : Nat) : ∀ i, i + m = 16 →
      roundsAlong t slot' (feistelAlong t slot b) m = feistelFinish t (roundsAlong t slot b i) (slot i) (slot (i + 1)) := by
  induction m with
  | zero =>
    rintro i rfl
    rfl
  | succ m ih =>
    intro i hi
    rw [roundsAlong_succ, ih (i + 1) (by omega), h (i + 2) m (by omega), roundsAlong_succ,
      feistelRound_feistelFinish_feistelRound]

/-- The operation along the opposite order of the subkeys undoes it, whatever the order is. -/
theorem feistelAlong_feistelAlong {t : Tables} {slot slot' : Nat → Fin 18} (h : ∀ i m, i + m = 17 → slot' m = slot i)
    (b : Block) : feistelAlong t slot' (feistelAlong t slot b) = b := by
  rw [feistelAlong, roundsAlong_feistelAlong h b 16 0 rfl, roundsAlong_zero, h 1 16 rfl, h 0 17 rfl,
    feistelFinish_feistelFinish]

theorem decSlot_eq_encSlot {i m : Nat} (h : i + m = 17) : decSlot m = encSlot i := by
  rw [decSlot, encSlot, ← h, Nat.add_sub_cancel]

/-- Settles O17: DECBLK runs along the opposite order of ENCBLK, and ENCBLK along that of DECBLK. -/
theorem decblkAndEncblkAreInverse : Obligations.DecblkAndEncblkAreInverse := by
  intro t l r
  simp only [encblk_eq_feistelAlong, decblk_eq_feistelAlong]
  refine ⟨feistelAlong_feistelAlong (fun i m h => decSlot_eq_encSlot h) ⟨l, r⟩,
    feistelAlong_feistelAlong (fun i m h => ?_) ⟨l, r⟩⟩
  exact (decSlot_eq_encSlot (by omega)).symm

end Sys2Proof.Machine
end

section
/-! PROOF. The padding engine of spec/44_padding.md (O23 to O29). The ten operations are two: a PAD appends its scheme's tail
(`tailOf`), an UNPAD cuts by its scheme's rule (`cutOf`). Each rule is said once, of a sequence given with its last bytes:
`cutCount_concat`, `cutMarker_append`, `cutFill_append`. PAD leaves whole blocks, so UNPAD gives x back exactly when it cuts
what PAD appended. -/

namespace Sys2Proof.Machine

/-! ## The ten operations as two -/

/-- The bytes a scheme appends, by their count (R106 to R110). -/
def tailOf : Padding → Nat → List Byte
  | .pkcs5 => tailPkcs5
  | .oneAndZeros => tailOneAndZeros
  | .lastByte => tailLastByte
  | .null => tailNull
  | .spaces => tailSpaces

/-- The cut a scheme makes of whole blocks (R113 to R117). -/
def cutOf : Padding → List Byte → Nat
  | .pkcs5 => cutCount
  | .oneAndZeros => cutMarker
  | .lastByte => cutCount
  | .null => cutFill 0x00#8
  | .spaces => cutFill 0x20#8

/-- The free value that a scheme's cut of other sequences is taken from (notes/assumptions/13.md). -/
def freeCutOf : Padding → List Byte → Nat
  | .pkcs5 => Config.freeCutCount
  | .oneAndZeros => Config.freeCutMarker
  | .lastByte => Config.freeCutCount
  | .null => Config.freeCutFill 0x00#8
  | .spaces => Config.freeCutFill 0x20#8

theorem padBy_eq_padWith (d : Padding) (x : List Byte) : padBy d x = padWith (tailOf d) x := by
  cases d <;> rfl

theorem unpadBy_eq_unpadWith (d : Padding) (y : List Byte) : unpadBy d y = unpadWith (cutOf d) (freeCutOf d) y := by
  cases d <;> rfl

theorem exec_padInstr {d : Padding} {x y : List Byte} (h : padBy d x = y) (s : State) :
    exec (padInstr d x) s = .next { s with resBytes := y } := by
  subst h
  cases d <;> rfl

theorem exec_unpadInstr {d : Padding} {y z : List Byte} (h : unpadBy d y = z) (s : State) :
    exec (unpadInstr d y) s = .next { s with resBytes := z } := by
  subst h
  cases d <;> rfl

/-! ## What a PAD appends -/

theorem tailOf_length (d : Padding) {c : Nat} (h : 1 ≤ c) : (tailOf d c).length = c := by
  have hc : c - 1 + 1 = c := Nat.sub_add_cancel h
  cases d <;> simp [tailOf, tailPkcs5, tailOneAndZeros, tailLastByte, tailNull, tailSpaces, hc]

theorem padBy_of_whole (d : Padding) {x : List Byte} (h : x.length % 8 = 0) : padBy d x = x := by
  simp [padBy_eq_padWith, padWith, padCount, h]

theorem padBy_of_count (d : Padding) {x : List Byte} {c : Nat} (h1 : 1 ≤ c) (h7 : c ≤ 7) (h : (x.length + c) % 8 = 0) :
    padBy d x = x ++ tailOf d c := by
  have hc : padCount x = c := by unfold padCount; omega
  rw [padBy_eq_padWith, padWith, hc, if_neg (by omega)]

/-- Every sequence is whole blocks, or 1 to 7 bytes short of them (R105). -/
theorem whole_or_count (x : List Byte) : x.length % 8 = 0 ∨ ∃ c, 1 ≤ c ∧ c ≤ 7 ∧ (x.length + c) % 8 = 0 := by
  by_cases h : x.length % 8 = 0
  · exact .inl h
  · exact .inr ⟨8 - x.length % 8, by omega⟩

/-- Settles O23: each PAD by its scheme's tail. -/
theorem padAppendsItsTail : Obligations.PadAppendsItsTail := by
  refine fun x s => ⟨fun h d => exec_padInstr (padBy_of_whole d h) s, fun c h1 h7 h => ?_⟩
  have hpad (d : Padding) := padBy_of_count d h1 h7 h
  refine ⟨exec_padInstr (hpad .pkcs5) s, exec_padInstr (d := .oneAndZeros) ?_ s, exec_padInstr (d := .lastByte) ?_ s,
    exec_padInstr (hpad .null) s, exec_padInstr (hpad .spaces) s⟩
  · rw [hpad, List.append_assoc]; rfl
  · rw [hpad, List.append_assoc]; rfl

/-- Settles O24: PAD appends nothing to whole blocks, and else the 1 to 7 bytes that are missing. -/
theorem padReachesTheLeastMultiple : Obligations.PadReachesTheLeastMultiple := by
  refine fun d x s => ⟨padBy d x, exec_padInstr rfl s, ?_⟩
  obtain h | ⟨c, h1, h7, h⟩ := whole_or_count x
  · rw [padBy_of_whole d h]
    exact ⟨h, Nat.le_refl _, Nat.le_add_right _ _, List.take_length, fun _ _ hn => hn, id⟩
  · have hlen : (x ++ tailOf d c).length = x.length + c := by rw [List.length_append, tailOf_length d h1]
    rw [padBy_of_count d h1 h7 h, hlen]
    refine ⟨h, by omega, by omega, List.take_left, fun n hn hx => by omega, ?_⟩
    rintro rfl
    rw [List.length_nil] at h
    omega

/-! ## The cut by the last byte -/

theorem cutCount_concat (ys : List Byte) (v : Byte) : cutCount (ys ++ [v]) = if v.toNat < 8 then v.toNat else 0 := by
  simp [cutCount]

theorem cutCount_le_seven (y : List Byte) : cutCount y ≤ 7 := by
  unfold cutCount
  dsimp only
  split <;> omega

/-- R119 (c) for PKCS5 and LAST_BYTE. -/
theorem cutCount_eq_zero_iff (x : List Byte) :
    cutCount x = 0 ↔ ∀ v, x.getLast? = some v → v = 0 ∨ 8 ≤ v.toNat := by
  obtain rfl | ⟨ys, v, rfl⟩ := x.eq_nil_or_concat'
  · simp [cutCount]
  · have hv : v = 0 ↔ v.toNat = 0 := BitVec.toNat_inj.symm
    simp only [cutCount_concat, List.getLast?_concat, Option.some.injEq, forall_eq', hv]
    split <;> omega

theorem cutCount_tailLastByte (x : List Byte) {c : Nat} (h7 : c ≤ 7) : cutCount (x ++ tailLastByte c) = c := by
  have hc : (BitVec.ofNat 8 c).toNat = c := Nat.mod_eq_of_lt (by omega)
  rw [tailLastByte, ← List.append_assoc, cutCount_concat, hc, if_pos (by omega)]

theorem cutCount_tailPkcs5 (x : List Byte) {c : Nat} (h1 : 1 ≤ c) (h7 : c ≤ 7) : cutCount (x ++ tailPkcs5 c) = c := by
  have hc : (BitVec.ofNat 8 c).toNat = c := Nat.mod_eq_of_lt (by omega)
  obtain ⟨n, rfl⟩ : ∃ n, c = n + 1 := ⟨c - 1, by omega⟩
  rw [tailPkcs5, List.replicate_succ', ← List.append_assoc, cutCount_concat, hc, if_pos (by omega)]

/-! ## The cut at the marker -/

theorem scanBytes_length_le (y : List Byte) : (scanBytes y).length ≤ 7 := List.length_take_le 7 y.reverse

theorem markerDistance_append (k : Nat) (rest : List Byte) (i : Nat) :
    markerDistance i (List.replicate k 0x00#8 ++ 0x80#8 :: rest) = i + k := by
  induction k generalizing i with
  | zero => rfl
  | succ k ih =>
    rw [List.replicate_succ, List.cons_append, markerDistance, if_neg (by decide), if_pos rfl, ih]
    omega

/-- The scan finds no marker, or there is one behind zeros only. -/
theorem markerDistance_eq_zero_or (l : List Byte) (i : Nat) :
    markerDistance i l = 0 ∨ ∃ k rest, l = List.replicate k 0x00#8 ++ 0x80#8 :: rest := by
  induction l generalizing i with
  | nil => exact .inl rfl
  | cons c l ih =>
    rw [markerDistance]
    split
    · next hc => exact .inr ⟨0, l, by rw [hc]; rfl⟩
    · split
      · next hc =>
        obtain h | ⟨k, rest, rfl⟩ := ih (i + 1)
        · exact .inl h
        · exact .inr ⟨k + 1, rest, by rw [hc]; rfl⟩
      · exact .inl rfl

theorem cutMarker_append (ys : List Byte) {k : Nat} (hk : k < 7) :
    cutMarker (ys ++ 0x80#8 :: List.replicate k 0x00#8) = k + 1 := by
  have hscan : scanBytes (ys ++ 0x80#8 :: List.replicate k 0x00#8) =
      List.replicate k 0x00#8 ++ 0x80#8 :: ys.reverse.take (6 - k) := by
    have h7 : 7 - k = 6 - k + 1 := by omega
    simp [scanBytes, List.take_append, h7, Nat.min_eq_right hk.le]
  rw [cutMarker, hscan, markerDistance_append, Nat.add_comm]

theorem cutMarker_eq_zero_or (y : List Byte) : cutMarker y = 0 ∨ EndsInMarker y := by
  obtain h | ⟨k, rest, h⟩ := markerDistance_eq_zero_or (scanBytes y) 1
  · exact .inl h
  · have hlen := scanBytes_length_le y
    have hk : k < 7 := by
      rw [h, List.length_append, List.length_replicate, List.length_cons] at hlen
      omega
    refine .inr ⟨(rest ++ y.reverse.drop 7).reverse, k, hk, List.reverse_inj.mp ?_⟩
    calc y.reverse = scanBytes y ++ y.reverse.drop 7 := (List.take_append_drop 7 y.reverse).symm
      _ = ((rest ++ y.reverse.drop 7).reverse ++ 0x80#8 :: List.replicate k 0x00#8).reverse := by simp [h]

theorem cutMarker_eq_zero_iff (y : List Byte) : cutMarker y = 0 ↔ ¬ EndsInMarker y := by
  refine ⟨?_, (cutMarker_eq_zero_or y).resolve_right⟩
  rintro h ⟨ys, k, hk, rfl⟩
  rw [cutMarker_append ys hk] at h
  cases h

theorem cutMarker_le_seven (y : List Byte) : cutMarker y ≤ 7 := by
  obtain h | ⟨ys, k, hk, rfl⟩ := cutMarker_eq_zero_or y
  · omega
  · rwa [cutMarker_append ys hk]

/-! ## The cut of the fill run -/

theorem runLength_append (fill : Byte) (k : Nat) (l : List Byte) :
    runLength fill (List.replicate k fill ++ l) = k + runLength fill l := by
  induction k with
  | zero => simp
  | succ k ih => rw [List.replicate_succ, List.cons_append, runLength, if_pos rfl, ih, Nat.add_right_comm]

theorem runLength_take (fill : Byte) (n : Nat) (l : List Byte) : runLength fill (l.take n) = min n (runLength fill l) := by
  induction l generalizing n with
  | nil => simp [runLength]
  | cons c l ih =>
    cases n with
    | zero => simp [runLength]
    | succ n =>
      rw [List.take_succ_cons, runLength, runLength, ih]
      split <;> omega

theorem runLength_reverse_eq_zero_iff (fill : Byte) (x : List Byte) :
    runLength fill x.reverse = 0 ↔ x.getLast? ≠ some fill := by
  rw [← List.head?_reverse]
  cases x.reverse with
  | nil => simp [runLength]
  | cons c l => simp [runLength]

theorem cutFill_eq (fill : Byte) (y : List Byte) : cutFill fill y = min 7 (runLength fill y.reverse) :=
  runLength_take fill 7 y.reverse

/-- The run of k fill bytes goes on into the sequence before it, and at most seven of it are cut (R116, R119 (b)). -/
theorem cutFill_append (fill : Byte) (ys : List Byte) (k : Nat) :
    cutFill fill (ys ++ List.replicate k fill) = min 7 (k + runLength fill ys.reverse) := by
  rw [cutFill_eq, List.reverse_append, List.reverse_replicate, runLength_append]

/-- R119 (b), and (c) for NULL and SPACES with c = 0: UNPAD cuts the c fill bytes, and more when the sequence ends in one. -/
theorem cutFill_append_eq_iff (fill : Byte) (x : List Byte) {c : Nat} (h7 : c ≤ 7) :
    cutFill fill (x ++ List.replicate c fill) = c ↔ c = 7 ∨ x.getLast? ≠ some fill := by
  rw [cutFill_append, ← runLength_reverse_eq_zero_iff]
  omega

/-! ## What an UNPAD cuts -/

theorem cutOf_le_seven (d : Padding) (y : List Byte) : cutOf d y ≤ 7 := by
  cases d with
  | pkcs5 => exact cutCount_le_seven y
  | oneAndZeros => exact cutMarker_le_seven y
  | lastByte => exact cutCount_le_seven y
  | null => exact (cutFill_eq _ y).trans_le (Nat.min_le_left _ _)
  | spaces => exact (cutFill_eq _ y).trans_le (Nat.min_le_left _ _)

theorem cutOf_nil (d : Padding) : cutOf d [] = 0 := by
  cases d <;> rfl

theorem cutOf_lt_length_of_whole (d : Padding) {y : List Byte} (h : y.length % 8 = 0) (hn : y ≠ []) :
    cutOf d y < y.length := by
  have h7 := cutOf_le_seven d y
  have hpos := List.length_pos_iff.mpr hn
  omega

theorem cutOf_le_length_of_whole (d : Padding) {y : List Byte} (h : y.length % 8 = 0) : cutOf d y ≤ y.length := by
  by_cases hn : y = []
  · rw [hn, cutOf_nil]
    exact Nat.zero_le _
  · exact (cutOf_lt_length_of_whole d h hn).le

theorem unpadBy_of_whole (d : Padding) {y : List Byte} (h : y.length % 8 = 0) :
    unpadBy d y = y.take (y.length - cutOf d y) := by
  rw [unpadBy_eq_unpadWith]
  by_cases hn : y = []
  · simp [hn]
  · exact unpadWith_of_whole _ _ y hn h

theorem unpadBy_of_partial (d : Padding) {y : List Byte} (h : y.length % 8 ≠ 0) :
    unpadBy d y = y.take (y.length - boundedCut (freeCutOf d y) y) := by
  rw [unpadBy_eq_unpadWith, unpadWith_of_partial _ _ y h]

theorem unpadBy_of_cutOf_eq_length {d : Padding} {ys zs : List Byte} (h : (ys.length + zs.length) % 8 = 0)
    (hc : cutOf d (ys ++ zs) = zs.length) : unpadBy d (ys ++ zs) = ys := by
  rw [unpadBy_of_whole d (by rwa [List.length_append]), hc, List.length_append, Nat.add_sub_cancel, List.take_left]

theorem unpadBy_of_cutOf_eq_zero {d : Padding} {y : List Byte} (h : y.length % 8 = 0) (hc : cutOf d y = 0) :
    unpadBy d y = y := by
  rw [unpadBy_of_whole d h, hc, Nat.sub_zero, List.take_length]

/-- Settles O28: the cut of the scheme's rule for whole blocks, the bounded free cut for any other sequence. -/
theorem unpadRemovesAtMostSeven : Obligations.UnpadRemovesAtMostSeven := by
  intro d y s
  by_cases h : y.length % 8 = 0
  · exact ⟨cutOf d y, cutOf_le_seven d y, cutOf_le_length_of_whole d h, fun _ => cutOf_lt_length_of_whole d h,
      fun hn => hn ▸ cutOf_nil d, exec_unpadInstr (unpadBy_of_whole d h) s⟩
  · refine ⟨boundedCut (freeCutOf d y) y, boundedCut_le_seven _ y, boundedCut_le_length _ y, fun hw => absurd hw h, ?_,
      exec_unpadInstr (unpadBy_of_partial d h) s⟩
    rintro rfl
    exact absurd rfl h

/-- Settles O25: both schemes cut by `cutCount`, on whole blocks and with one free value elsewhere. -/
theorem unpadCutsByTheLastByte : Obligations.UnpadCutsByTheLastByte := by
  refine ⟨fun y s => ⟨unpadPkcs5 y, rfl, rfl⟩, fun ys v s hlen => ?_⟩
  have hw : (ys ++ [v]).length % 8 = 0 := by simpa using hlen
  constructor
  · intro hv
    have hcut : cutCount (ys ++ [v]) = v.toNat := by rw [cutCount_concat, if_pos hv]
    have hout : unpadPkcs5 (ys ++ [v]) = (ys ++ [v]).take (ys.length + 1 - v.toNat) := by
      refine (unpadBy_of_whole .pkcs5 hw).trans ?_
      rw [cutOf, hcut, List.length_append, List.length_singleton]
    exact ⟨exec_unpadInstr (d := .pkcs5) hout s, exec_unpadInstr (d := .lastByte) hout s⟩
  · intro hv
    have hcut : cutCount (ys ++ [v]) = 0 := by rw [cutCount_concat, if_neg (by omega)]
    exact ⟨exec_unpadInstr (d := .pkcs5) (unpadBy_of_cutOf_eq_zero hw hcut) s,
      exec_unpadInstr (d := .lastByte) (unpadBy_of_cutOf_eq_zero hw hcut) s⟩

/-- Settles O26: `cutMarker` is the marker's distance, or 0 where there is none. -/
theorem unpadCutsAtTheMarker : Obligations.UnpadCutsAtTheMarker := by
  constructor
  · intro ys k s hk hlen
    refine exec_unpadInstr (d := .oneAndZeros) (unpadBy_of_cutOf_eq_length ?_ ?_) s
    · simpa [Nat.add_assoc, Nat.add_comm] using hlen
    · simpa [cutOf] using cutMarker_append ys hk
  · intro y s hlen hm
    exact exec_unpadInstr (d := .oneAndZeros) (unpadBy_of_cutOf_eq_zero hlen ((cutMarker_eq_zero_iff y).mpr hm)) s

/-- A scheme that cuts a fill run gives back what stands before it. -/
theorem unpadBy_append_fill {d : Padding} {fill : Byte} (hd : cutOf d = cutFill fill) {ys : List Byte} {k : Nat}
    (h7 : k ≤ 7) (hlen : (ys.length + k) % 8 = 0) (hk : k = 7 ∨ ys.getLast? ≠ some fill) :
    unpadBy d (ys ++ List.replicate k fill) = ys := by
  refine unpadBy_of_cutOf_eq_length (by rwa [List.length_replicate]) ?_
  rw [hd, List.length_replicate, cutFill_append_eq_iff fill ys h7]
  exact hk

/-- Settles O27: one argument for both fill bytes. -/
theorem unpadCutsTheFillRun : Obligations.UnpadCutsTheFillRun := fun _ _ s h7 hlen =>
  ⟨fun hk => exec_unpadInstr (d := .null) (unpadBy_append_fill rfl h7 hlen hk) s,
    fun hk => exec_unpadInstr (d := .spaces) (unpadBy_append_fill rfl h7 hlen hk) s⟩

/-! ## UNPAD after PAD -/

/-- R119 (c): of whole blocks, to which PAD adds nothing, UNPAD cuts nothing exactly in the listed cases. -/
theorem cutOf_eq_zero_iff_roundTrips (d : Padding) {x : List Byte} (h : x.length % 8 = 0) :
    cutOf d x = 0 ↔ RoundTrips d x := by
  have hfill (fill : Byte) : cutFill fill x = 0 ↔ x.getLast? ≠ some fill := by
    simpa using cutFill_append_eq_iff fill x (Nat.zero_le 7)
  cases d with
  | pkcs5 => simpa [RoundTrips, cutOf, h] using cutCount_eq_zero_iff x
  | oneAndZeros => simpa [RoundTrips, cutOf, h] using cutMarker_eq_zero_iff x
  | lastByte => simpa [RoundTrips, cutOf, h] using cutCount_eq_zero_iff x
  | null => simpa [RoundTrips, cutOf, h] using hfill 0x00#8
  | spaces => simpa [RoundTrips, cutOf, h] using hfill 0x20#8

/-- R119 (a), (b): UNPAD cuts the c bytes that PAD appended in the listed cases, and more in all others. -/
theorem cutOf_tailOf (d : Padding) {x : List Byte} {c : Nat} (h1 : 1 ≤ c) (h7 : c ≤ 7) (h : (x.length + c) % 8 = 0) :
    c ≤ cutOf d (x ++ tailOf d c) ∧ (cutOf d (x ++ tailOf d c) = c ↔ RoundTrips d x) := by
  have hx : x.length % 8 ≠ 0 := by omega
  have hfill (fill : Byte) : c ≤ cutFill fill (x ++ List.replicate c fill) ∧
      (cutFill fill (x ++ List.replicate c fill) = c ↔ x.getLast? ≠ some fill ∨ x.length % 8 = 1) := by
    constructor
    · rw [cutFill_append]
      omega
    · rw [cutFill_append_eq_iff fill x h7, or_comm, show c = 7 ↔ x.length % 8 = 1 by omega]
  have hexact (hc : cutOf d (x ++ tailOf d c) = c) (hr : RoundTrips d x) :
      c ≤ cutOf d (x ++ tailOf d c) ∧ (cutOf d (x ++ tailOf d c) = c ↔ RoundTrips d x) :=
    ⟨hc.ge, iff_of_true hc hr⟩
  cases d with
  | pkcs5 => exact hexact (cutCount_tailPkcs5 x h1 h7) (.inl hx)
  | oneAndZeros =>
    refine hexact ?_ (.inl hx)
    simpa [cutOf, tailOf, tailOneAndZeros, Nat.sub_add_cancel h1] using cutMarker_append x (k := c - 1) (by omega)
  | lastByte => exact hexact (cutCount_tailLastByte x h7) (.inl hx)
  | null => exact hfill 0x00#8
  | spaces => exact hfill 0x20#8

/-- R119 at the operations: UNPAD cuts at least what PAD added, and exactly that in the listed cases. -/
theorem cutOf_padBy (d : Padding) (x : List Byte) :
    ∃ zs : List Byte, padBy d x = x ++ zs ∧ (x.length + zs.length) % 8 = 0 ∧ zs.length ≤ cutOf d (x ++ zs) ∧
      (cutOf d (x ++ zs) = zs.length ↔ RoundTrips d x) := by
  obtain h | ⟨c, h1, h7, h⟩ := whole_or_count x
  · refine ⟨[], ?_, h, Nat.zero_le _, ?_⟩
    · rw [padBy_of_whole d h, List.append_nil]
    · rw [List.append_nil]
      exact cutOf_eq_zero_iff_roundTrips d h
  · refine ⟨tailOf d c, padBy_of_count d h1 h7 h, ?_⟩
    rw [tailOf_length d h1]
    exact ⟨h, cutOf_tailOf d h1 h7 h⟩

/-- A cut of more than was appended reaches into the sequence, and leaves less than all of it. -/
theorem unpadBy_of_length_lt_cutOf {d : Padding} {x zs : List Byte} (h : (x.length + zs.length) % 8 = 0)
    (hc : zs.length < cutOf d (x ++ zs)) :
    unpadBy d (x ++ zs) <+: x ∧ (unpadBy d (x ++ zs)).length < x.length := by
  rw [← List.length_append] at h
  have hcut := cutOf_le_length_of_whole d h
  have hlt : (x ++ zs).length - cutOf d (x ++ zs) < x.length := by rw [List.length_append] at hcut ⊢; omega
  rw [unpadBy_of_whole d h, List.take_append_of_le_length hlt.le]
  exact ⟨List.take_prefix _ _, (List.length_take_le _ _).trans_lt hlt⟩

/-- Settles O29: by the cut of UNPAD against what PAD appended. -/
theorem unpadUndoesPadExactlyInTheListedCases : Obligations.UnpadUndoesPadExactlyInTheListedCases := by
  intro d x s
  obtain ⟨zs, hpad, hlen, hle, hiff⟩ := cutOf_padBy d x
  refine ⟨x ++ zs, _, exec_padInstr hpad s, exec_unpadInstr rfl s, fun hr => ?_, fun hr => ?_⟩
  · exact unpadBy_of_cutOf_eq_length hlen (hiff.mpr hr)
  · exact unpadBy_of_length_lt_cutOf hlen (lt_of_le_of_ne hle fun hc => hr (hiff.mp hc.symm))

end Sys2Proof.Machine
end

section
/-! PROOF. The mode controller of spec/45_modes.md (O30, O31, O34 to O36). Each mode operation is said once, by its output
block k as a function of the state and the input (`AnswersBlocks`); what a block depends on and what a replaced block changes
are then read off these functions. -/

namespace Sys2Proof.Machine

/-! ## The block operations -/

theorem decblk_encblk (t : Tables) (b : Block) : decblk t (encblk t b) = b := (decblkAndEncblkAreInverse t b.l b.r).1

theorem encblk_decblk (t : Tables) (b : Block) : encblk t (decblk t b) = b := (decblkAndEncblkAreInverse t b.l b.r).2

theorem decblk_injective (t : Tables) : Function.Injective (decblk t) := Function.LeftInverse.injective (encblk_decblk t)

theorem xorBlock_comm (a b : Block) : xorBlock a b = xorBlock b a := by
  simp only [xorBlock, xor32, tou32, BitVec.xor_comm]

theorem xorBlock_xorBlock_cancel (a b : Block) : xorBlock (xorBlock a b) b = a := by
  simp only [xorBlock, xor32, tou32, xor_cancel_right]

theorem xorBlock_left_injective (b : Block) : Function.Injective fun a => xorBlock a b :=
  Function.LeftInverse.injective (g := fun a => xorBlock a b) fun a => xorBlock_xorBlock_cancel a b

/-! ## Payloads as lists of blocks -/

theorem HasBlock.of_length_eq {x x' : List Byte} {k : Nat} (h : HasBlock x k) (hl : x'.length = x.length) : HasBlock x' k :=
  h.trans_eq hl.symm

/-- Block k of blocks treated each on its own (R126, R127). -/
theorem blockAt_map_blocks (f : Block → Block) {x : List Byte} {k : Nat} (h : HasBlock x k) :
    blockAt (bytesOfBlocks ((blocks x).map f)) k = f (blockAt x k) :=
  blockAt_bytesOfBlocks (by rw [List.getElem?_map, getElem?_blocks h, Option.map_some])

theorem blockBytes_packBlock (b0 b1 b2 b3 b4 b5 b6 b7 : Byte) :
    blockBytes (packBlock b0 b1 b2 b3 b4 b5 b6 b7) = [b0, b1, b2, b3, b4, b5, b6, b7] := by
  simp only [blockBytes, packBlock, unpack32_pack32, List.cons_append, List.nil_append]

/-- The blocks of whole blocks are all of them (R125). -/
theorem bytesOfBlocks_blocks {x : List Byte} (h : x.length % 8 = 0) : bytesOfBlocks (blocks x) = x := by
  induction x using blocks.induct with
  | case1 b0 b1 b2 b3 b4 b5 b6 b7 rest ih =>
    simp only [List.length_cons] at h
    rw [blocks, bytesOfBlocks_cons, blockBytes_packBlock, ih (by omega)]
    rfl
  | case2 x hx =>
    have := length_lt_of_no_block hx
    obtain rfl : x = [] := List.length_eq_zero_iff.mp (by omega)
    rfl

/-! ## The four operations by their output blocks -/

theorem exec_encInstr_of_whole (m : Mode) {x : List Byte} (s : State) (h : x.length % 8 = 0) :
    exec (encInstr m x) s = .next ((encBy m x s).state.withResBytes (encBy m x s).out) := by
  cases m <;> exact onWholeBlocks_of_whole x _ h

theorem exec_decInstr_of_whole (m : Mode) {x : List Byte} (s : State) (h : x.length % 8 = 0) :
    exec (decInstr m x) s = .next ((decBy m x s).state.withResBytes (decBy m x s).out) := by
  cases m <;> exact onWholeBlocks_of_whole x _ h

/-- Settles O30: ECB.ENC maps ENCBLK over the blocks. -/
theorem ecbEncEncryptsEachBlock : Obligations.EcbEncEncryptsEachBlock := fun _ s hx =>
  ⟨_, _, exec_encInstr_of_whole .ecb s hx, bytesOfBlocks_length_of_whole hx (List.length_map _),
    fun _ hk => blockAt_map_blocks (encblk s.tables) hk⟩

/-- Settles O31: ECB.DEC maps DECBLK over the blocks. -/
theorem ecbDecDecryptsEachBlock : Obligations.EcbDecDecryptsEachBlock := fun _ s hx =>
  ⟨_, _, exec_decInstr_of_whole .ecb s hx, bytesOfBlocks_length_of_whole hx (List.length_map _),
    fun _ hk => blockAt_map_blocks (decblk s.tables) hk⟩

/-- The operation answers next, its result is as long as `x`, and block k of it is `f k` wherever `x` has a block k. -/
def AnswersBlocks (i : Instr) (s : State) (x : List Byte) (f : Nat → Block) : Prop :=
  ∃ t, exec i s = .next t ∧ t.resBytes.length = x.length ∧ ∀ k, HasBlock x k → blockAt t.resBytes k = f k

theorem AnswersBlocks.length {i : Instr} {s : State} {x : List Byte} {f : Nat → Block} (h : AnswersBlocks i s x f) :
    ∃ t, exec i s = .next t ∧ t.resBytes.length = x.length := by
  obtain ⟨t, hexec, hlen, -⟩ := h
  exact ⟨t, hexec, hlen⟩

/-- Two operations agree in output block k when their formulas do. -/
theorem AnswersBlocks.agree {i i' : Instr} {s s' : State} {x x' : List Byte} {f f' : Nat → Block} {k : Nat}
    (h : AnswersBlocks i s x f) (h' : AnswersBlocks i' s' x' f') (hk : HasBlock x k) (hk' : HasBlock x' k)
    (hf : f k = f' k) :
    ∃ t t', exec i s = .next t ∧ exec i' s' = .next t' ∧ blockAt t.resBytes k = blockAt t'.resBytes k := by
  obtain ⟨t, hexec, -, ht⟩ := h
  obtain ⟨t', hexec', -, ht'⟩ := h'
  exact ⟨t, t', hexec, hexec', by rw [ht k hk, ht' k hk', hf]⟩

/-- Ciphertext block k of CBC.ENC: it takes the IV, and then the ciphertext block before (R128). -/
def cbcCipherBlock (s : State) (x : List Byte) : Nat → Block
  | 0 => encblk s.tables (xorBlock (ivAsBlock s) (blockAt x 0))
  | k + 1 => encblk s.tables (xorBlock (cbcCipherBlock s x k) (blockAt x (k + 1)))

/-- The chain value of CBC.DEC before block k: the IV, and then the input block before (R129). -/
def chainBlock (s : State) (x : List Byte) : Nat → Block
  | 0 => ivAsBlock s
  | k + 1 => blockAt x k

/-- Plaintext block k of CBC.DEC (R129). -/
def cbcPlainBlock (s : State) (x : List Byte) (k : Nat) : Block :=
  xorBlock (decblk s.tables (blockAt x k)) (chainBlock s x k)

theorem ecbEnc_answersBlocks {x : List Byte} (s : State) (hx : x.length % 8 = 0) :
    AnswersBlocks (.ecbEnc x) s x fun k => encblk s.tables (blockAt x k) := by
  obtain ⟨out, b, hexec, hlen, hblock⟩ := ecbEncEncryptsEachBlock x s hx
  exact ⟨_, hexec, hlen, hblock⟩

theorem ecbDec_answersBlocks {x : List Byte} (s : State) (hx : x.length % 8 = 0) :
    AnswersBlocks (.ecbDec x) s x fun k => decblk s.tables (blockAt x k) := by
  obtain ⟨out, b, hexec, hlen, hblock⟩ := ecbDecDecryptsEachBlock x s hx
  exact ⟨_, hexec, hlen, hblock⟩

theorem cbcEnc_answersBlocks {x : List Byte} (s : State) (hx : x.length % 8 = 0) :
    AnswersBlocks (.cbcEnc x) s x (cbcCipherBlock s x) := by
  obtain ⟨out, b, c, hexec, hlen, hfirst, hlater⟩ := cbcEncChainsTheCiphertext x s hx
  refine ⟨_, hexec, hlen, fun k hk => ?_⟩
  induction k with
  | zero => exact hfirst hk
  | succ k ih =>
    rw [cbcCipherBlock, ← ih hk.of_succ]
    exact hlater k hk

theorem cbcDec_answersBlocks {x : List Byte} (s : State) (hx : x.length % 8 = 0) :
    AnswersBlocks (.cbcDec x) s x (cbcPlainBlock s x) := by
  obtain ⟨out, b, c, hexec, hlen, hfirst, hlater⟩ := cbcDecChainsTheCiphertext x s hx
  refine ⟨_, hexec, hlen, fun k hk => ?_⟩
  cases k with
  | zero => exact hfirst hk
  | succ k => exact hlater k hk

/-! ## A replaced ciphertext block -/

/-- Settles O34: DECBLK and the xor with one chain value are injective; block k is a chain value for block k + 1 only. -/
theorem corruptedBlockPropagation : Obligations.CorruptedBlockPropagation := by
  intro x x' k s hx hl hk hne heq
  have hx' : x'.length % 8 = 0 := hl ▸ hx
  have has' : ∀ {j}, HasBlock x j → HasBlock x' j := fun hj => hj.of_length_eq hl
  constructor
  · obtain ⟨t, hexec, -, ht⟩ := ecbDec_answersBlocks s hx
    obtain ⟨t', hexec', -, ht'⟩ := ecbDec_answersBlocks s hx'
    refine ⟨t, t', hexec, hexec', ?_, fun j hj hjk => ?_⟩
    · rw [ht k hk, ht' k (has' hk)]
      exact (decblk_injective s.tables).ne hne
    · rw [ht j hj, ht' j (has' hj)]
      exact congrArg (decblk s.tables) (heq j hj hjk)
  · obtain ⟨t, hexec, -, ht⟩ := cbcDec_answersBlocks s hx
    obtain ⟨t', hexec', -, ht'⟩ := cbcDec_answersBlocks s hx'
    have hchain : ∀ j, HasBlock x j → j ≠ k + 1 → chainBlock s x j = chainBlock s x' j := by
      intro j hj hjk
      cases j with
      | zero => rfl
      | succ i => exact heq i hj.of_succ (by omega)
    refine ⟨t, t', hexec, hexec', ?_, fun hk1 => ?_, fun j hj hjk hjk1 => ?_⟩
    · rw [ht k hk, ht' k (has' hk), cbcPlainBlock, cbcPlainBlock, ← hchain k hk (by omega)]
      exact (xorBlock_left_injective _).ne ((decblk_injective s.tables).ne hne)
    · rw [ht (k + 1) hk1, ht' (k + 1) (has' hk1), cbcPlainBlock, cbcPlainBlock, ← heq (k + 1) hk1 (by omega)]
      exact congrArg (xorBlock · (blockAt x' k)) (xorBlock_xorBlock_cancel _ (blockAt x k)).symm
    · rw [ht j hj, ht' j (has' hj), cbcPlainBlock, cbcPlainBlock, heq j hj hjk, hchain j hj hjk1]

/-! ## DEC after ENC -/

/-- CBC.DEC of CBC.ENC from one chain value: the ciphertext block is the next chain value of both. -/
theorem cbcDecBlocks_cbcEncBlocks (t : Tables) (prev : Block) (bs : List Block) :
    cbcDecBlocks t prev (cbcEncBlocks t prev bs) = bs := by
  induction bs generalizing prev with
  | nil => rfl
  | cons b bs ih =>
    rw [cbcEncBlocks, cbcDecBlocks, ih, decblk_encblk, xorBlock_comm prev, xorBlock_xorBlock_cancel]

theorem encBy_out_length_mod (m : Mode) (x : List Byte) (s : State) : (encBy m x s).out.length % 8 = 0 := by
  cases m <;> exact bytesOfBlocks_whole _

/-- R127, R129: the outputs of the two operations on one state. -/
theorem decBy_encBy_out (m : Mode) {x : List Byte} (s : State) (hx : x.length % 8 = 0) :
    (decBy m (encBy m x s).out s).out = x := by
  cases m with
  | ecb =>
    simp only [encBy, decBy, ecbEnc, ecbDec, ecbEncBlocks, ecbDecBlocks, blocks_bytesOfBlocks, List.map_map,
      Function.LeftInverse.id (decblk_encblk s.tables), List.map_id, bytesOfBlocks_blocks hx]
  | cbc =>
    simp only [encBy, decBy, cbcEnc, cbcDec, blocks_bytesOfBlocks, cbcDecBlocks_cbcEncBlocks, bytesOfBlocks_blocks hx]

/-- Settles O35: ENC keeps the architectural state, which is all that DEC reads beside its operand. -/
theorem modeDecryptionUndoesEncryption : Obligations.ModeDecryptionUndoesEncryption := by
  intro m x s hx
  have hsame : SameArch ((encBy m x s).state.withResBytes (encBy m x s).out) s := encBy_arch m x s
  refine ⟨_, _, exec_encInstr_of_whole m s hx, exec_decInstr_of_whole m _ (encBy_out_length_mod m x s), ?_, ?_⟩
  · exact (hsame.decBy_out m _).trans (decBy_encBy_out m s hx)
  · exact (decBy_arch m _ _).trans hsame

/-! ## What an output block depends on -/

/-- Ciphertext block k reads the plaintext blocks 0 to k alone (R131). -/
theorem cbcCipherBlock_congr (s : State) {x x' : List Byte} {k : Nat} (heq : ∀ j, j ≤ k → blockAt x j = blockAt x' j) :
    cbcCipherBlock s x k = cbcCipherBlock s x' k := by
  induction k with
  | zero => rw [cbcCipherBlock, cbcCipherBlock, heq 0 le_rfl]
  | succ k ih => rw [cbcCipherBlock, cbcCipherBlock, ih fun j hj => heq j (by omega), heq (k + 1) le_rfl]

/-- Settles O36: the formula of each operation's output block names the blocks it depends on. -/
theorem outputBlockDependencies : Obligations.OutputBlockDependencies := by
  constructor
  · intro i x s hi hx
    simp only [List.mem_cons, List.not_mem_nil, or_false] at hi
    rcases hi with rfl | rfl | rfl | rfl
    · exact (ecbEnc_answersBlocks s hx).length
    · exact (ecbDec_answersBlocks s hx).length
    · exact (cbcEnc_answersBlocks s hx).length
    · exact (cbcDec_answersBlocks s hx).length
  · intro x x' k iv s hx hx' hk hk' heq
    refine ⟨?_, ?_, fun hbelow => ?_, fun hzero => ?_, fun j hj hprev => ?_⟩
    · exact (ecbEnc_answersBlocks s hx).agree (ecbEnc_answersBlocks _ hx') hk hk' (congrArg (encblk s.tables) heq)
    · exact (ecbDec_answersBlocks s hx).agree (ecbDec_answersBlocks _ hx') hk hk' (congrArg (decblk s.tables) heq)
    · refine (cbcEnc_answersBlocks s hx).agree (cbcEnc_answersBlocks s hx') hk hk' (cbcCipherBlock_congr s fun j hj => ?_)
      obtain hlt | rfl := hj.lt_or_eq
      · exact hbelow j hlt
      · exact heq
    · subst hzero
      exact (cbcDec_answersBlocks s hx).agree (cbcDec_answersBlocks s hx') hk hk'
        (congrArg₂ xorBlock (congrArg (decblk s.tables) heq) rfl)
    · subst hj
      exact (cbcDec_answersBlocks s hx).agree (cbcDec_answersBlocks _ hx') hk hk'
        (congrArg₂ xorBlock (congrArg (decblk s.tables) heq) hprev)

end Sys2Proof.Machine
end

section
/-! PROOF. The host commands of spec/46_commands.md, each by its rule (O37 to O40, O44). A command is read off the answer of
its checks, so each rule is the checks' answer on the states its clauses name. DECODE after ENCODE then joins the inverse of
the mode operations with the cases of R119. -/

namespace Sys2Proof.Machine

/-! ## INIT -/

theorem modeOf_eq_none {m : BitVec 2} (h : 1 < m.toNat) : modeOf m = none := by
  revert m; decide

theorem paddingOf_eq_none {pd : BitVec 3} (h : 4 < pd.toNat) : paddingOf pd = none := by
  revert pd; decide

theorem exists_modeOf {m : BitVec 2} (h : m.toNat ≤ 1) : ∃ mode, modeOf m = some mode := by
  rw [← Option.isSome_iff_exists]
  revert m; decide

theorem modeOf_eq_some {m : BitVec 2} {mode : Mode} (h : (m, mode) ∈ [(0, Mode.ecb), (1, Mode.cbc)]) :
    modeOf m = some mode := by
  simp only [List.mem_cons, Prod.mk.injEq, List.not_mem_nil, or_false] at h
  obtain ⟨rfl, rfl⟩ | ⟨rfl, rfl⟩ := h <;> rfl

theorem paddingOf_eq_some {pd : BitVec 3} {pad : Padding} (h : (pd, pad) ∈ [(0, Padding.pkcs5), (1, Padding.oneAndZeros),
    (2, Padding.lastByte), (3, Padding.null), (4, Padding.spaces)]) : paddingOf pd = some pad := by
  simp only [List.mem_cons, Prod.mk.injEq, List.not_mem_nil, or_false] at h
  obtain ⟨rfl, rfl⟩ | ⟨rfl, rfl⟩ | ⟨rfl, rfl⟩ | ⟨rfl, rfl⟩ | ⟨rfl, rfl⟩ := h <;> rfl

theorem checkInit_nil (m : BitVec 2) (pd : BitVec 3) : checkInit m pd [] = .error .errKey := if_pos rfl

theorem checkInit_of_modeOf_none {m : BitVec 2} {key : List Byte} (hkey : key ≠ []) (hm : modeOf m = none)
    (pd : BitVec 3) : checkInit m pd key = .error .errMode := by
  simp [checkInit, hkey, hm]

theorem checkInit_of_paddingOf_none {m : BitVec 2} {pd : BitVec 3} {key : List Byte} {mode : Mode} (hkey : key ≠ [])
    (hm : modeOf m = some mode) (hpd : paddingOf pd = none) : checkInit m pd key = .error .errPad := by
  simp [checkInit, hkey, hm, hpd]

theorem checkInit_of_some {m : BitVec 2} {pd : BitVec 3} {key : List Byte} {mode : Mode} {pad : Padding} (hkey : key ≠ [])
    (hm : modeOf m = some mode) (hpd : paddingOf pd = some pad) : checkInit m pd key = .ok (mode, pad) := by
  simp [checkInit, hkey, hm, hpd]

theorem execInit_of_error {m : BitVec 2} {pd : BitVec 3} {key : List Byte} {e : Status}
    (h : checkInit m pd key = .error e) (s : State) : execInit m pd key s = .next (reject e s) := by
  simp [execInit, h]

theorem execInit_of_ok {m : BitVec 2} {pd : BitVec 3} {key : List Byte} {q : Mode × Padding}
    (h : checkInit m pd key = .ok q) (s : State) :
    execInit m pd key s = .next (accept [] ((runKsched key s).withConfig q.1 q.2)) := by
  simp [execInit, h]

/-- Settles O37: the checks in their order, and then KSCHED and the configuration. -/
theorem initFollowsItsRule : Obligations.InitFollowsItsRule := by
  refine fun m pd key s => ⟨?_, fun hkey hm => ?_, fun hkey hm hpd => ?_, fun hkey mode pad hmode hpad => ?_⟩
  · rintro rfl
    exact execInit_of_error (checkInit_nil m pd) s
  · exact execInit_of_error (checkInit_of_modeOf_none hkey (modeOf_eq_none hm) pd) s
  · obtain ⟨mode, hmode⟩ := exists_modeOf hm
    exact execInit_of_error (checkInit_of_paddingOf_none hkey hmode (paddingOf_eq_none hpd)) s
  · have hok := checkInit_of_some hkey (modeOf_eq_some hmode) (paddingOf_eq_some hpad)
    exact ⟨runKsched key s, (ksched key).lr, exec_ksched hkey s, execInit_of_ok hok s⟩

/-! ## SETIV -/

theorem ivOf_of_length_ne {iv : List Byte} (h : iv.length ≠ 8) : ivOf iv = none := dif_neg h

/-- Eight bytes are an IV, byte by byte (R17, R56). -/
theorem exists_ivOf {iv : List Byte} (h : iv.length = 8) :
    ∃ v, ivOf iv = some v ∧ ∀ k : Fin 8, v[k.val] = iv.getD k.val 0 := by
  refine ⟨_, dif_pos h, fun k => ?_⟩
  have hk : k.val < iv.length := by omega
  exact (List.getD_eq_getElem iv 0 hk).symm

theorem checkSetiv_of_ivOf_none {s : State} {iv : List Byte} (hk : s.keyed = true) (hv : ivOf iv = none) :
    checkSetiv iv s = .error .errIv := by
  simp [checkSetiv, hk, hv]

theorem checkSetiv_of_ivOf_some {s : State} {iv : List Byte} {v : Vector Byte 8} (hk : s.keyed = true)
    (hv : ivOf iv = some v) : checkSetiv iv s = .ok v := by
  simp [checkSetiv, hk, hv]

/-- Settles O38: the checks in their order, and then the eight bytes. -/
theorem setivFollowsItsRule : Obligations.SetivFollowsItsRule := by
  refine fun iv s => ⟨exec_unkeyed rfl nofun, fun hk hlen => ?_, fun hk hlen => ?_⟩
  · exact execSetiv_of_error (checkSetiv_of_ivOf_none hk (ivOf_of_length_ne hlen))
  · obtain ⟨v, hv, hbytes⟩ := exists_ivOf hlen
    exact ⟨v, hbytes, execSetiv_of_ok (checkSetiv_of_ivOf_some hk hv)⟩

/-! ## The checks of ENCODE and DECODE -/

theorem checkEncode_of_missing {s : State} (hk : s.keyed = true) (hmode : s.mode = .cbc) (hiv : s.ivValid = false) :
    checkEncode s = some .errIv := by
  rw [checkEncode_eq, hk, hmode, hiv]

theorem checkEncode_of_ready {s : State} (hk : s.keyed = true) (h : s.mode = .ecb ∨ s.ivValid = true) :
    checkEncode s = none := by
  rw [checkEncode_eq, hk]
  obtain hmode | hiv := h
  · rw [hmode]
  · rw [hiv]
    cases s.mode <;> rfl

/-- On whole blocks DECODE makes ENCODE's checks (R138, R139). -/
theorem checkDecode_of_whole {z : List Byte} (hz : z.length % 8 = 0) (s : State) : checkDecode z s = checkEncode s := by
  rw [checkDecode, (wholeBlocks_iff z).mpr hz]
  rfl

theorem checkDecode_of_partial {z : List Byte} {s : State} (hk : s.keyed = true) (hz : z.length % 8 ≠ 0) :
    checkDecode z s = some .errLen := by
  simp [checkDecode, hk, hz]

/-- What passes DECODE's checks passes ENCODE's (R138, R139). -/
theorem checkEncode_of_checkDecode {z : List Byte} {s : State} (h : checkDecode z s = none) : checkEncode s = none := by
  by_cases hz : z.length % 8 = 0
  · exact (checkDecode_of_whole hz s).symm.trans h
  · rw [checkDecode_of_partial (keyed_of_checkDecode h) hz] at h
    cases h

theorem ivMissing_of_checkEncode {s : State} (h : checkEncode s = none) : ivMissing s = false := by
  rw [checkEncode, keyed_of_checkEncode h] at h
  simpa using h

/-! ## ENCODE and DECODE -/

/-- A mode operation writes working words alone (R131, R132). -/
theorem encBy_state_eq (m : Mode) (x : List Byte) (s : State) :
    ∃ b c, (encBy m x s).state = { s with lr := b, prev := c } := by
  cases m with
  | ecb => exact ⟨_, s.prev, rfl⟩
  | cbc => exact ⟨_, _, rfl⟩

theorem decBy_state_eq (m : Mode) (x : List Byte) (s : State) :
    ∃ b c, (decBy m x s).state = { s with lr := b, prev := c } := by
  cases m with
  | ecb => exact ⟨_, s.prev, rfl⟩
  | cbc => exact ⟨_, _, rfl⟩

/-- PAD leaves whole blocks (R111). -/
theorem padBy_whole (d : Padding) (x : List Byte) : (padBy d x).length % 8 = 0 := by
  obtain ⟨zs, hpad, hlen, -⟩ := cutOf_padBy d x
  rw [hpad, List.length_append]
  exact hlen

/-- Settles O39: the checks in their order, and then PAD and ENC, each as the operation by itself computes it. -/
theorem encodeFollowsItsRule : Obligations.EncodeFollowsItsRule := by
  refine fun x s => ⟨exec_unkeyed rfl nofun, fun hk hmode hiv => ?_, fun hk hready => ?_⟩
  · exact execEncode_of_some (checkEncode_of_missing hk hmode hiv)
  · obtain ⟨b, c, hstate⟩ := encBy_state_eq s.mode (padBy s.pad x) s
    refine ⟨_, _, b, c, exec_padInstr rfl s, exec_encInstr_of_whole s.mode s (padBy_whole s.pad x), ?_⟩
    rw [exec_encode, execEncode_of_none (checkEncode_of_ready hk hready), hstate]
    rfl

/-- Settles O40: the checks in their order, and then DEC and UNPAD, each as the operation by itself computes it. -/
theorem decodeFollowsItsRule : Obligations.DecodeFollowsItsRule := by
  refine fun z s => ⟨exec_unkeyed rfl nofun, fun hk hz => ?_, fun hk hz hmode hiv => ?_, fun hk hz hready => ?_⟩
  · exact execDecode_of_some (checkDecode_of_partial hk hz)
  · exact execDecode_of_some ((checkDecode_of_whole hz s).trans (checkEncode_of_missing hk hmode hiv))
  · obtain ⟨b, c, hstate⟩ := decBy_state_eq s.mode z s
    refine ⟨_, _, b, c, exec_decInstr_of_whole s.mode s hz, exec_unpadInstr rfl s, ?_⟩
    rw [exec_decode, execDecode_of_none ((checkDecode_of_whole hz s).trans (checkEncode_of_ready hk hready)), hstate]
    rfl

/-! ## DECODE after ENCODE -/

/-- R119: UNPAD undoes PAD in the listed cases and in no others. -/
theorem unpadBy_padBy_eq_iff (d : Padding) (x : List Byte) : unpadBy d (padBy d x) = x ↔ RoundTrips d x := by
  obtain ⟨zs, hpad, hlen, hle, hiff⟩ := cutOf_padBy d x
  rw [hpad, ← hiff]
  refine ⟨fun heq => ?_, unpadBy_of_cutOf_eq_length hlen⟩
  by_contra hne
  obtain ⟨-, hshort⟩ := unpadBy_of_length_lt_cutOf hlen (lt_of_le_of_ne hle (Ne.symm hne))
  rw [heq] at hshort
  exact lt_irrefl _ hshort

/-- DECODE of an ENC output in a state with the same architectural state: it passes its checks and undoes ENC. -/
theorem execDecode_encBy_out {s t : State} (ht : SameArch t s) (hcheck : checkEncode s = none) {y : List Byte}
    (hy : y.length % 8 = 0) :
    ∃ u, execDecode (encBy s.mode y s).out t = .next (accept (unpadBy s.pad y) u) ∧ SameArch u s := by
  have hdecode : checkDecode (encBy s.mode y s).out t = none :=
    (checkDecode_of_whole (encBy_out_length_mod s.mode y s) t).trans (ht.checkEncode_congr.trans hcheck)
  rw [execDecode_of_none hdecode, ht.mode, ht.pad, ht.decBy_out, decBy_encBy_out s.mode s hy]
  exact ⟨_, rfl, (decBy_arch s.mode _ t).trans ht⟩

/-- Settles O44: ENCODE keeps the architectural state, so DECODE undoes ENC of the padded payload, and R119 the padding. -/
theorem decodeAfterEncode : Obligations.DecodeAfterEncode := by
  intro x s hk hready
  have hcheck := checkEncode_of_ready hk hready
  obtain ⟨u, hexec, hu⟩ := execDecode_encBy_out (t := accept _ _) (encBy_arch _ _ _) hcheck (padBy_whole s.pad x)
  exact ⟨_, _, _, _, _, execEncode_of_none hcheck, rfl, exec_padInstr rfl s, exec_unpadInstr rfl s, hexec, rfl, hu,
    unpadBy_padBy_eq_iff s.pad x⟩

end Sys2Proof.Machine
end

section
/-! PROOF. What no later response reads (O51, O54). Of the IV a command reads only the one a CBC operation would use
(`usableIv`), so "the same but for an IV that nothing uses" survives every command. States in ECB mode are so related
whatever their IVs are, and states just after the same accepted INIT are, whatever came before it. -/

namespace Sys2Proof.Machine

/-- The IV that an ENCODE or DECODE in this state uses: one that is set, in CBC mode (R16, R143). -/
def usableIv (s : State) : Option (Vector Byte 8) :=
  match s.mode, s.ivValid with
  | .cbc, true => some s.iv
  | _, _ => none

theorem usableIv_of_ecb {s : State} (h : s.mode = .ecb) : usableIv s = none := by
  rw [usableIv, h]

theorem usableIv_of_unset {s : State} (h : s.ivValid = false) : usableIv s = none := by
  rw [usableIv, h]
  cases s.mode <;> rfl

/-- A CBC operation that meets the IV requirement uses the IV (R16). -/
theorem usableIv_of_cbc {s : State} (hmode : s.mode = .cbc) (hm : ivMissing s = false) : usableIv s = some s.iv := by
  have hiv : s.ivValid = true := by simpa [ivMissing, hmode] using hm
  rw [usableIv, hmode, hiv]

theorem SameArch.usableIv {s s' : State} (h : SameArch s s') : usableIv s = usableIv s' := by
  rw [Machine.usableIv, Machine.usableIv, h.mode, h.ivValid, h.iv]

/-- The IV requirement fails exactly where the mode is CBC and no IV is usable (R138, R139). -/
theorem ivMissing_eq (s : State) : ivMissing s = (s.mode == .cbc && (usableIv s).isNone) := by
  unfold ivMissing usableIv
  cases s.mode <;> cases s.ivValid <;> rfl

/-- The states agree in all that a response can depend on: not in an IV that nothing uses. -/
structure SameUsable (s s' : State) : Prop where
  keyed : s.keyed = s'.keyed
  mode : s.mode = s'.mode
  pad : s.pad = s'.pad
  tables : s.tables = s'.tables
  iv : usableIv s = usableIv s'

namespace SameUsable

/-- R142: an accepted INIT leaves the same, whatever the core held before. -/
theorem of_init (key : List Byte) (m : Mode) (d : Padding) (s s' : State) :
    SameUsable ((runKsched key s).withConfig m d) ((runKsched key s').withConfig m d) where
  keyed := rfl
  mode := rfl
  pad := rfl
  tables := rfl
  iv := (usableIv_of_unset rfl).trans (usableIv_of_unset rfl).symm

section
variable {s s' : State} (h : SameUsable s s')
include h

/-- The relation reads the architectural state alone. -/
theorem of_arch {t t' : State} (ht : SameArch t s) (ht' : SameArch t' s') : SameUsable t t' where
  keyed := ht.keyed.trans (h.keyed.trans ht'.keyed.symm)
  mode := ht.mode.trans (h.mode.trans ht'.mode.symm)
  pad := ht.pad.trans (h.pad.trans ht'.pad.symm)
  tables := ht.tables.trans (h.tables.trans ht'.tables.symm)
  iv := ht.usableIv.trans (h.iv.trans ht'.usableIv.symm)

theorem withIv (v : Vector Byte 8) : SameUsable (s.withIv v) (s'.withIv v) where
  keyed := h.keyed
  mode := h.mode
  pad := h.pad
  tables := h.tables
  iv := by simp only [usableIv, State.withIv_mode, State.withIv_ivValid, State.withIv_iv, h.mode]

/-! ## The checks and the outputs -/

theorem ivMissing_congr : ivMissing s = ivMissing s' := by
  rw [ivMissing_eq, ivMissing_eq, h.mode, h.iv]

theorem checkSetiv_congr (iv : List Byte) : checkSetiv iv s = checkSetiv iv s' := by
  simp only [checkSetiv, h.keyed]

theorem checkEncode_congr : checkEncode s = checkEncode s' := by
  simp only [checkEncode, h.keyed, h.ivMissing_congr]

theorem checkDecode_congr (z : List Byte) : checkDecode z s = checkDecode z s' := by
  simp only [checkDecode, h.keyed, h.ivMissing_congr]

theorem iv_eq (hmode : s'.mode = .cbc) (hm : ivMissing s' = false) : s.iv = s'.iv := by
  have hiv := h.iv
  rwa [usableIv_of_cbc (h.mode.trans hmode) (h.ivMissing_congr.trans hm), usableIv_of_cbc hmode hm,
    Option.some_inj] at hiv

theorem encBy_out (hm : ivMissing s' = false) (x : List Byte) : (encBy s'.mode x s).out = (encBy s'.mode x s').out := by
  cases hmode : s'.mode with
  | ecb => simp only [encBy, ecbEnc, h.tables]
  | cbc => simp only [encBy, cbcEnc, h.tables, h.iv_eq hmode hm]

theorem decBy_out (hm : ivMissing s' = false) (z : List Byte) : (decBy s'.mode z s).out = (decBy s'.mode z s').out := by
  cases hmode : s'.mode with
  | ecb => simp only [decBy, ecbDec, h.tables]
  | cbc => simp only [decBy, cbcDec, h.tables, h.iv_eq hmode hm]

/-! ## One command -/

theorem reject_alike (e : Status) : AnswerAlike SameUsable (.next (reject e s)) (.next (reject e s')) :=
  ⟨_, _, _, rfl, rfl, reject_response e s, reject_response e s', h.of_arch (reject_arch e s) (reject_arch e s')⟩

theorem accept_alike (dout : List Byte) : AnswerAlike SameUsable (.next (accept dout s)) (.next (accept dout s')) :=
  ⟨_, _, _, rfl, rfl, accept_response dout s, accept_response dout s',
    h.of_arch (accept_arch dout s) (accept_arch dout s')⟩

theorem execSetiv_alike (iv : List Byte) : AnswerAlike SameUsable (execSetiv iv s) (execSetiv iv s') := by
  have hc := h.checkSetiv_congr iv
  cases hs : checkSetiv iv s' with
  | error e =>
    rw [execSetiv_of_error (hc.trans hs), execSetiv_of_error hs]
    exact h.reject_alike e
  | ok v =>
    rw [execSetiv_of_ok (hc.trans hs), execSetiv_of_ok hs]
    exact (h.withIv v).accept_alike []

theorem execEncode_alike (x : List Byte) : AnswerAlike SameUsable (execEncode x s) (execEncode x s') := by
  have hc := h.checkEncode_congr
  cases hs : checkEncode s' with
  | some e =>
    rw [execEncode_of_some (hc.trans hs), execEncode_of_some hs]
    exact h.reject_alike e
  | none =>
    rw [execEncode_of_none (hc.trans hs), execEncode_of_none hs, h.mode, h.pad,
      h.encBy_out (ivMissing_of_checkEncode hs)]
    exact (h.of_arch (encBy_arch _ _ s) (encBy_arch _ _ s')).accept_alike _

theorem execDecode_alike (z : List Byte) : AnswerAlike SameUsable (execDecode z s) (execDecode z s') := by
  have hc := h.checkDecode_congr z
  cases hs : checkDecode z s' with
  | some e =>
    rw [execDecode_of_some (hc.trans hs), execDecode_of_some hs]
    exact h.reject_alike e
  | none =>
    rw [execDecode_of_none (hc.trans hs), execDecode_of_none hs, h.mode, h.pad,
      h.decBy_out (ivMissing_of_checkEncode (checkEncode_of_checkDecode hs))]
    exact (h.of_arch (decBy_arch _ _ s) (decBy_arch _ _ s')).accept_alike _

end

theorem execInit_alike_of_ok {m : BitVec 2} {pd : BitVec 3} {key : List Byte} {q : Mode × Padding}
    (hq : checkInit m pd key = .ok q) (s s' : State) :
    AnswerAlike SameUsable (execInit m pd key s) (execInit m pd key s') := by
  rw [execInit_of_ok hq, execInit_of_ok hq]
  exact (of_init key q.1 q.2 s s').accept_alike []

theorem execInit_alike {s s' : State} (h : SameUsable s s') (m : BitVec 2) (pd : BitVec 3) (key : List Byte) :
    AnswerAlike SameUsable (execInit m pd key s) (execInit m pd key s') := by
  cases hc : checkInit m pd key with
  | error e =>
    rw [execInit_of_error hc, execInit_of_error hc]
    exact h.reject_alike e
  | ok q => exact execInit_alike_of_ok hc s s'

end SameUsable

/-- R16, R143: "the same but for an IV that nothing uses" survives every command, which is answered alike. -/
theorem sameUsable_keptByCommands : KeptByCommands SameUsable := by
  intro c s s' h
  have hp : SameUsable (s.withPending []) (s'.withPending []) :=
    h.of_arch (State.withPending_arch s []) (State.withPending_arch s' [])
  obtain ⟨why, hd⟩ | ⟨m, pd, hd⟩ | hd | hd | hd := decode_cases c
  · rw [issue_reserved hd, issue_reserved hd]
    exact hp.reject_alike .errCmd
  all_goals rw [issue_instr hd, issue_instr hd]
  · exact hp.execInit_alike m pd c.din
  · exact hp.execSetiv_alike c.din
  · exact hp.execEncode_alike c.din
  · exact hp.execDecode_alike c.din

/-! ## The statements -/

/-- A command answered alike, and a relation that every later command keeps: the whole run is answered alike. -/
theorem AnswerAlike.serve_cons_eq {R : State → State → Prop} {c : Command} {s s' : State}
    (h : AnswerAlike R (issue c s) (issue c s')) (hR : KeptByCommands R) (cs : List Command) :
    serve s (c :: cs) = serve s' (c :: cs) := by
  obtain ⟨t, t', r, ht, ht', hr, hr', hrel⟩ := h
  rw [serve_cons s t c cs r ht hr, serve_cons s' t' c cs r ht' hr', hR.serve_eq cs hrel]

/-- An accepted INIT passed its checks (R136, R156). -/
theorem checkInit_of_accepted {m : BitVec 2} {pd : BitVec 3} {key : List Byte} {s t : State}
    (ht : execInit m pd key s = .next t) (hok : Accepted t) : ∃ q, checkInit m pd key = .ok q := by
  cases hc : checkInit m pd key with
  | ok q => exact ⟨q, rfl⟩
  | error e =>
    rw [execInit_of_error hc] at ht
    cases ht
    exact absurd hok (not_accepted_reject (by rintro rfl; exact checkInit_ne_ok _ _ _ hc) s)

/-- Settles O51: INIT's checks read the command alone, and what an accepted INIT leaves differs in an unset IV at most. -/
theorem initReplacesEverything : Obligations.InitReplacesEverything := by
  rintro c cs s s' t ⟨m, pd, hd⟩ ht hok
  rw [issue_instr hd] at ht
  obtain ⟨q, hq⟩ := checkInit_of_accepted ht hok
  have halike : AnswerAlike SameUsable (issue c s) (issue c s') := by
    rw [issue_instr hd, issue_instr hd]
    exact SameUsable.execInit_alike_of_ok hq _ _
  exact halike.serve_cons_eq sameUsable_keptByCommands cs

/-- Settles O54: the first half is SETIV's rule; in ECB mode no IV is usable, so an IV changed there is related to the old. -/
theorem ecbIgnoresTheIv : Obligations.EcbIgnoresTheIv := by
  refine fun s hmode => ⟨fun iv hk hlen => ?_, fun v b cs => sameUsable_keptByCommands.serve_eq cs ?_⟩
  · obtain ⟨-, -, haccept⟩ := setivFollowsItsRule iv s
    obtain ⟨v, hbytes, hexec⟩ := haccept hk hlen
    exact ⟨_, hexec, ⟨[], rfl⟩, rfl, hbytes⟩
  · exact
      { keyed := rfl, mode := rfl, pad := rfl, tables := rfl
        iv := Eq.trans (usableIv_of_ecb hmode) (usableIv_of_ecb hmode).symm }

end Sys2Proof.Machine
end

section
/-! PROOF. The rejections of spec/60_exceptions.md (O41, O42). Of the effects of a command only a rejection leaves a status that
is not OK, and it changes nothing but the response. So the architectural state, which alone reaches a later response (R23), is
what it was before the command. -/

namespace Sys2Proof.Machine

/-- R150: every effect of a command but a rejection is an acceptance. -/
theorem CommandEffect.accepted_or_reject {s t : State} {i : Instr} (h : CommandEffect s i t) :
    Accepted t ∨ ∃ e, t = reject e s := by
  cases h with
  | rejected e he => exact .inr ⟨e, rfl⟩
  | init m pd key mode pad hkey => exact .inl (accepted_accept _ _)
  | setiv iv v hk => exact .inl (accepted_accept _ _)
  | read dout u hk hu => exact .inl (accepted_accept _ _)

/-- R150, R156: a command that is taken is accepted, or rejected with nothing changed but that it was taken. -/
theorem step_accepted_or_reject (s : State) (c : Command) (rest : List Command) (h : s.pending = c :: rest) :
    ∃ t, step s = .next t ∧ (Accepted t ∨ ∃ e, t = reject e (s.withPending rest)) := by
  obtain ⟨t, ht, hres⟩ := step_effect s c rest h
  refine ⟨t, ht, ?_⟩
  obtain rfl | ⟨i, -, heff⟩ := hres
  · exact .inr ⟨.errCmd, rfl⟩
  · exact heff.accepted_or_reject

/-- Settles O41: an accepted command has status OK, and a rejection writes the response alone. -/
theorem rejectionChangesNothing : Obligations.RejectionChangesNothing := by
  intro c rest s
  obtain ⟨t, ht, ⟨dout, hok⟩ | ⟨e, rfl⟩⟩ := step_accepted_or_reject { s with pending := c :: rest } c rest rfl
  · exact ⟨t, _, ht, hok, fun hne => absurd rfl hne⟩
  · exact ⟨_, _, ht, reject_response e _, fun _ => ⟨rfl, rfl⟩⟩

/-- Settles O42: by O41 a rejection leaves the architectural state as it was, and later answers depend on nothing else. -/
theorem rejectedCommandAsIfNeverIssued : Obligations.RejectedCommandAsIfNeverIssued := by
  intro c s
  obtain ⟨t, r, ht, hr, hreject⟩ := rejectionChangesNothing c [] s
  refine ⟨t, r, ht, hr, fun hne cs => ?_⟩
  obtain ⟨-, rfl⟩ := hreject hne
  exact sameArch_keptByCommands.serve_eq cs rfl

end Sys2Proof.Machine
end
